-- ==== Sys2Proof/Word.lean ====
section
/-! DEFINITION. The two widths the block works in (spec/00_scope.md R9). -/

namespace Sys2Proof

/-- A byte: 8 bits, the unit of both byte streams (R9, R60). -/
abbrev Byte := BitVec 8

/-- A data word or a command argument: 16 bits (R9, R112). -/
abbrev Word := BitVec 16

end Sys2Proof
end

