-- ==== Sys2Proof/Syntax.lean ====
section
/-! DEFINITION. The commands of the block: the 28 wire commands, one for each row of
spec/opcode_table.json, and the four pseudo-commands of R113 that own no row. -/

namespace Sys2Proof

/-- The peripheral's storage or source selection (R34). -/
inductive Device where
  | usb
  | sd
  | aux
  | sleep
  | flash
  deriving DecidableEq, Repr, Inhabited

/-- The equalizer settings, in the order of their indices 0 to 5 (R35). -/
inductive Equalizer where
  | normal
  | pop
  | rock
  | jazz
  | classic
  | bass
  deriving DecidableEq, Repr, Inhabited

/-- The command selector: one value per mnemonic (R105, R112, R113). -/
inductive Sel where
  | next
  | prev
  | playidx
  | volup
  | voldn
  | volset
  | eqset
  | repcur
  | devsel
  | lpon
  | chiprst
  | play
  | pause
  | playft
  | loopall
  | playfold
  | stop
  | loopfold
  | shuffle
  | loopone
  | dac
  | qstate
  | qvol
  | qeq
  | qfusb
  | qfsd
  | qfflash
  | qffold
  | lpoff
  | init
  | fcnt
  | fcntc
  deriving DecidableEq, Repr, Inhabited

/-- A command as the host presents it: a selector and the 16 bits of `arg` (R112, R131). A command
without an operand carries its `arg` too: the block ignores it and latches it (R130, R131). -/
inductive Instr where
  | next (arg : Word)
  | prev (arg : Word)
  | playidx (arg : Word)
  | volup (arg : Word)
  | voldn (arg : Word)
  | volset (arg : Word)
  | eqset (arg : Word)
  | repcur (arg : Word)
  | devsel (arg : Word)
  | lpon (arg : Word)
  | chiprst (arg : Word)
  | play (arg : Word)
  | pause (arg : Word)
  | playft (arg : Word)
  | loopall (arg : Word)
  | playfold (arg : Word)
  | stop (arg : Word)
  | loopfold (arg : Word)
  | shuffle (arg : Word)
  | loopone (arg : Word)
  | dac (arg : Word)
  | qstate (arg : Word)
  | qvol (arg : Word)
  | qeq (arg : Word)
  | qfusb (arg : Word)
  | qfsd (arg : Word)
  | qfflash (arg : Word)
  | qffold (arg : Word)
  | lpoff (arg : Word)
  | init (arg : Word)
  | fcnt (arg : Word)
  | fcntc (arg : Word)
  deriving DecidableEq, Repr, Inhabited

/-- The selector of a command. -/
def Instr.sel : Instr → Sel
  | .next _ => .next
  | .prev _ => .prev
  | .playidx _ => .playidx
  | .volup _ => .volup
  | .voldn _ => .voldn
  | .volset _ => .volset
  | .eqset _ => .eqset
  | .repcur _ => .repcur
  | .devsel _ => .devsel
  | .lpon _ => .lpon
  | .chiprst _ => .chiprst
  | .play _ => .play
  | .pause _ => .pause
  | .playft _ => .playft
  | .loopall _ => .loopall
  | .playfold _ => .playfold
  | .stop _ => .stop
  | .loopfold _ => .loopfold
  | .shuffle _ => .shuffle
  | .loopone _ => .loopone
  | .dac _ => .dac
  | .qstate _ => .qstate
  | .qvol _ => .qvol
  | .qeq _ => .qeq
  | .qfusb _ => .qfusb
  | .qfsd _ => .qfsd
  | .qfflash _ => .qfflash
  | .qffold _ => .qffold
  | .lpoff _ => .lpoff
  | .init _ => .init
  | .fcnt _ => .fcnt
  | .fcntc _ => .fcntc

/-- The 16 bits a command carries at the port. -/
def Instr.arg : Instr → Word
  | .next a => a
  | .prev a => a
  | .playidx a => a
  | .volup a => a
  | .voldn a => a
  | .volset a => a
  | .eqset a => a
  | .repcur a => a
  | .devsel a => a
  | .lpon a => a
  | .chiprst a => a
  | .play a => a
  | .pause a => a
  | .playft a => a
  | .loopall a => a
  | .playfold a => a
  | .stop a => a
  | .loopfold a => a
  | .shuffle a => a
  | .loopone a => a
  | .dac a => a
  | .qstate a => a
  | .qvol a => a
  | .qeq a => a
  | .qfusb a => a
  | .qfsd a => a
  | .qfflash a => a
  | .qffold a => a
  | .lpoff a => a
  | .init a => a
  | .fcnt a => a
  | .fcntc a => a

/-- The command a selector and an argument make. -/
def Sel.instr : Sel → Word → Instr
  | .next => .next
  | .prev => .prev
  | .playidx => .playidx
  | .volup => .volup
  | .voldn => .voldn
  | .volset => .volset
  | .eqset => .eqset
  | .repcur => .repcur
  | .devsel => .devsel
  | .lpon => .lpon
  | .chiprst => .chiprst
  | .play => .play
  | .pause => .pause
  | .playft => .playft
  | .loopall => .loopall
  | .playfold => .playfold
  | .stop => .stop
  | .loopfold => .loopfold
  | .shuffle => .shuffle
  | .loopone => .loopone
  | .dac => .dac
  | .qstate => .qstate
  | .qvol => .qvol
  | .qeq => .qeq
  | .qfusb => .qfusb
  | .qfsd => .qfsd
  | .qfflash => .qfflash
  | .qffold => .qffold
  | .lpoff => .lpoff
  | .init => .init
  | .fcnt => .fcnt
  | .fcntc => .fcntc

/-- What stands at the command port before it is decoded: a selector code and the argument. The
spec gives the selector no binary code and lets a build choose one (R105); the codes are
Sys2Proof.Sel.code of Decode.lean. -/
structure PortRequest where
  code : Byte
  arg : Word
  deriving DecidableEq, Repr, Inhabited

end Sys2Proof
end

