-- ==== Sys2Proof/Config.lean ====
section
/-! DEFINITION. The parameters of a model (spec/00_scope.md R8), the agents (spec/10_state.md R22), and
the values the spec leaves open: constants without a body, so that nothing can be proved of their
value. -/

namespace Sys2Proof

/-- What `round` does with an exact half, the parameter ROUND_TIE (R8, R11). -/
inductive RoundTie where
  | up
  | even
  deriving DecidableEq, Repr, Inhabited

/-- The parameter DEVICE_CODE: the byte sent for each device (R231). -/
structure DeviceCode where
  usb : Byte
  sd : Byte
  aux : Byte
  sleep : Byte
  flash : Byte
  deriving DecidableEq, Repr, Inhabited

/-- The OPEN parameters of R8 that the block's behaviour depends on. `rxCapacity` is `none` for an
unbounded receive buffer (R45). -/
structure Params where
  roundTie : RoundTie
  deviceCode : DeviceCode
  initDevice : Device
  initEq : Equalizer
  rxCapacity : Option Nat
  deriving DecidableEq, Repr, Inhabited

/-- The five agents of R22; the peripheral's turn carries the byte that arrives (R48). -/
inductive Agent where
  | host
  | sequencer
  | timebase
  | peripheral (b : Byte)
  | reset
  deriving DecidableEq, Repr, Inhabited

/-- ROUND_TIE of the build (R8, decision D4: open). UNVERIFIED, log 2. -/
opaque Config.roundTie : RoundTie

/-- INIT_DEVICE of the build (R8, R34, decision D19: open). UNVERIFIED, log 4. -/
opaque Config.initDevice : Device

/-- INIT_EQ of the build, one of the six settings (R8, R35, decision D19: open). UNVERIFIED, log 4. -/
opaque Config.initEq : Equalizer

/-- The bytes that lie in RXFIFO when the machine starts: any sequence (R322, U5). Log 7. -/
opaque Config.rxFifoAtReset : List Byte

/-- Whose turn is the n-th of the free sequence of turns: any agent, and of the peripheral any byte, at any
time (R22, R48, U7). Nothing bounds how many bytes arrive, so an endless drain is among its orders
(R338, U12). Logs 12 and 17. -/
opaque Config.freeTurn : Nat → Agent

/-- What RES_VAL would receive at the end of a drain of a command that never drains: R266 has no row for
it, and no run reaches it. Log 14. -/
opaque Config.resultWithoutRow : Sel → Word → BitVec 32

/-- What CMD_SEL holds after the n-th `reset` step: unspecified (R320, U4). Log 6. -/
opaque Config.cmdSelAfterReset : Nat → Sel

/-- What CMD_ARG holds after the n-th `reset` step: unspecified (R320, U4). Log 6. -/
opaque Config.cmdArgAfterReset : Nat → Word

/-- What TX_OP holds after the n-th `reset` step: unspecified (R320, U4). Log 6. -/
opaque Config.txOpAfterReset : Nat → Byte

/-- What TX_LO holds after the n-th `reset` step: unspecified (R320, U4). Log 6. -/
opaque Config.txLoAfterReset : Nat → Byte

/-- What TX_HI holds after the n-th `reset` step: unspecified (R320, U4). Log 6. -/
opaque Config.txHiAfterReset : Nat → Byte

/-- What LAST_OP holds after the n-th `reset` step: unspecified (R320, U4). Log 6. -/
opaque Config.lastOpAfterReset : Nat → Byte

/-- What LAST_DW holds after the n-th `reset` step: unspecified (R320, U4). Log 6. -/
opaque Config.lastDwAfterReset : Nat → Word

end Sys2Proof
end

