-- ==== Sys2Proof/Machine/Codec.lean ====
section
/-! DEFINITION. The frame codec and the catalog facts that hang on the opcode alone: the two frame
formats, the encoder, the decoder, the settle delay and the query class (spec/30_encoding.md,
spec/40_dispatch_sequencer.md R138, spec/00_scope.md R8). -/

namespace Sys2Proof.Machine

/-- SOF, offset 0 of both formats (R8, R91, R92). -/
def startMarker : Byte := 0x7E#8

/-- VER, offset 1 of both formats (R8, R91, R92). -/
def versionByte : Byte := 0xFF#8

/-- LEN, offset 2 of both formats: a constant that is checked, never used (R90, R93). -/
def lengthByte : Byte := 0x06#8

/-- FB, offset 4 of a transmit frame (R8, R91). -/
def feedbackByte : Byte := 0x00#8

/-- EOF, the last offset of both formats (R8, R91, R92). -/
def endMarker : Byte := 0xEF#8

/-- `w mod 256`, the byte a transmit frame carries at offset 5 (R66, R96). -/
def loByte (w : Word) : Byte := w.extractLsb' 0 8

/-- `w div 256`, the byte a transmit frame carries at offset 6 (R66, R96). -/
def hiByte (w : Word) : Byte := w.extractLsb' 8 8

/-- `Encode(op, lo, hi)`: the transmit frame, total and pure (R91, R94, R95). -/
def encodeTx (op lo hi : Byte) : List Byte :=
  [startMarker, versionByte, lengthByte, op, feedbackByte, lo, hi, endMarker]

/-- `frame(op, w)`: the data word goes out low byte first (R66, R96). -/
def txFrame (op : Byte) (w : Word) : List Byte :=
  encodeTx op (loByte w) (hiByte w)

/-- `Decode(buf)`: the opcode and the data word, read high byte first, of a buffer of exactly ten
bytes whose offsets 0, 1, 2 and 9 hold the fixed bytes; total, and it checks nothing else (R67,
R92, R98, R99, R100; conflict C5). -/
def decodeRx : List Byte → Option (Byte × Word)
  | [b0, b1, b2, op, _, hi, lo, _, _, b9] =>
    if b0 = startMarker ∧ b1 = versionByte ∧ b2 = lengthByte ∧ b9 = endMarker then
      some (op, hi ++ lo)
    else none
  | _ => none

/-- QUERY_SET: the opcodes after which the block drains the receive stream (R8, R101). -/
def querySet : List Byte := [0x42#8, 0x43#8, 0x44#8, 0x47#8, 0x48#8, 0x49#8, 0x4E#8]

/-- SLOW_SET: device select and every query-class opcode (R8, R138, conflict C6). -/
def slowSet : List Byte := [0x09#8, 0x42#8, 0x43#8, 0x44#8, 0x47#8, 0x48#8, 0x49#8, 0x4E#8]

/-- The opcode of the one command with the long delay, `CHIPRST` (R138). -/
def chipResetOp : Byte := 0x0C#8

/-- `delay(op)` in milliseconds, for every byte (R138). -/
def settleDelay (op : Byte) : BitVec 10 :=
  if op = chipResetOp then 1000#10
  else if op ∈ slowSet then 200#10
  else 30#10

end Sys2Proof.Machine
end

