-- ==== Sys2Proof/Machine/Operands.lean ====
section
/-! DEFINITION. How a command reads its argument, the arithmetic of the block, and the value a
query returns (spec/30_encoding.md R112, spec/42_volume_equalizer.md, spec/45_queries.md R266). -/

namespace Sys2Proof.Machine

/-- `clamp(v, lo, hi)` (R11). -/
def clamp (v lo hi : Int) : Int :=
  if v < lo then lo else if hi < v then hi else v

/-- `round(n / d)` of an exact non-negative rational; ROUND_TIE decides an exact half (R11). -/
def roundDiv (tie : RoundTie) (n d : Nat) : Nat :=
  if 2 * (n % d) < d then n / d
  else if d < 2 * (n % d) then n / d + 1
  else match tie with
    | .up => n / d + 1
    | .even => n / d + (n / d) % 2

/-- `units(p)`: a percentage clamped to 0..100 and scaled to the peripheral's 0..30 (R193). -/
def units (tie : RoundTie) (p : Int) : Nat :=
  roundDiv tie ((clamp p 0 100).toNat * 30) 100

/-- `percent(u)` in its integer form: no exact half arises, so ROUND_TIE plays no part (R198). -/
def percent (u : Nat) : Nat := (10 * u + 1) / 3

/-- `coerce(e)`: an index outside 0..5 becomes 0, not the nearer bound (R197). -/
def coerce (e : Int) : Nat :=
  if 0 ≤ e ∧ e ≤ 5 then e.toNat else 0

/-- The index 0 to 5 of an equalizer setting (R35). -/
def equalizerIndex : Equalizer → Nat
  | .normal => 0
  | .pop => 1
  | .rock => 2
  | .jazz => 3
  | .classic => 4
  | .bass => 5

/-- The setting with a given index; `coerce` gives only 0 to 5, and what lies outside is normal
(R35, R197). -/
def equalizerOfIndex : Nat → Equalizer
  | 1 => .pop
  | 2 => .rock
  | 3 => .jazz
  | 4 => .classic
  | 5 => .bass
  | _ => .normal

/-- `on = arg[0]`; the other bits are ignored (R112, R211, R214, R215). -/
def argOn (arg : Word) : Bool := arg.getLsbD 0

/-- The Device value that travels in `arg[2:0]` (R112). The code is the build's own; this one counts
the spec's list from 0 and leaves 5, 6 and 7 without a device. DESIGN CHOICE, log 9. -/
def deviceOfArg (arg : Word) : Option Device :=
  match arg.toNat % 8 with
  | 0 => some .usb
  | 1 => some .sd
  | 2 => some .aux
  | 3 => some .sleep
  | 4 => some .flash
  | _ => none

/-- The argument that carries a device, its upper bits 0. DESIGN CHOICE, log 9. -/
def argOfDevice : Device → Word
  | .usb => 0#16
  | .sd => 1#16
  | .aux => 2#16
  | .sleep => 3#16
  | .flash => 4#16

/-- `DEVICE_CODE(dev)`, the byte sent for a device under the build's parameter (R231). -/
def deviceByte (dc : DeviceCode) : Device → Byte
  | .usb => dc.usb
  | .sd => dc.sd
  | .aux => dc.aux
  | .sleep => dc.sleep
  | .flash => dc.flash

/-- The device a byte stands for under a DEVICE_CODE, the first in the spec's order. -/
def deviceOfByte (dc : DeviceCode) (b : Byte) : Option Device :=
  [Device.usb, .sd, .aux, .sleep, .flash].find? fun d => deviceByte dc d = b

/-- DEVICE_CODE is injective, as R231 asks of the parameter. -/
abbrev distinctDeviceBytes (dc : DeviceCode) : Prop :=
  [dc.usb, dc.sd, dc.aux, dc.sleep, dc.flash].Nodup

/-- The default DEVICE_CODE that R231 supplies, its G1 (general knowledge). PRESUMED, log 3. -/
def standardDeviceCode : DeviceCode :=
  { usb := 0x01#8, sd := 0x02#8, aux := 0x03#8, sleep := 0x04#8, flash := 0x05#8 }

/-- The parameters of the machine that starts at `State.reset`: what R8 leaves without a default is
an open constant, the rest is the default R8 gives. Logs 2, 3, 4, 5. -/
def buildParams : Params :=
  { roundTie := Config.roundTie
    deviceCode := standardDeviceCode
    initDevice := Config.initDevice
    initEq := Config.initEq
    rxCapacity := none }

/-- The opcode that counts the files of a storage device; `none` where no frame is sent (R262). -/
def fileCountOp : Device → Option Byte
  | .usb => some 0x47#8
  | .sd => some 0x48#8
  | .flash => some 0x49#8
  | .aux => none
  | .sleep => none

/-- The commands that drain: the seven query-class ones, and `INIT`, `FCNT` and `FCNTC` through them
(R148, R266). -/
def drains : Sel → Bool
  | .qstate | .init | .qvol | .qeq | .qfusb | .qfsd | .qfflash | .qffold | .fcnt | .fcntc => true
  | .next | .prev | .playidx | .volup | .voldn | .volset | .eqset | .repcur | .devsel | .lpon
  | .chiprst | .play | .pause | .playft | .loopall | .playfold | .stop | .loopfold | .shuffle
  | .loopone | .dac | .lpoff => false

/-- `result(CMD_SEL, last)`: what RES_VAL receives when a command's drain ends (R148, R266). The last
line holds the selectors whose commands never drain: R266 has no row for them and no run reaches it,
so it is a free value. Log 14. -/
def resultValue (sel : Sel) : Option (Byte × Word) → BitVec 32
  | none => 0#32
  | some (_, dw) =>
    match sel with
    | .qvol => BitVec.ofNat 32 (percent dw.toNat)
    | .qstate | .init | .qeq | .qfusb | .qfsd | .qfflash | .qffold | .fcnt | .fcntc => dw.setWidth 32
    | .next | .prev | .playidx | .volup | .voldn | .volset | .eqset | .repcur | .devsel | .lpon
    | .chiprst | .play | .pause | .playft | .loopall | .playfold | .stop | .loopfold | .shuffle
    | .loopone | .dac | .lpoff => Config.resultWithoutRow sel dw

end Sys2Proof.Machine
end

