-- ==== Sys2Proof/WellFormed.lean ====
section
/-! DEFINITION. Which commands the port's types admit: a command that names a device carries one of
the five (spec/30_encoding.md R105, decision D31). Every other argument is admitted: an
out-of-range volume or equalizer value is clamped or coerced, never rejected (R286). -/

namespace Sys2Proof

/-- The selectors whose `arg` is a Device value (R112). -/
def Sel.takesDevice : Sel → Bool
  | .devsel => true
  | .init => true
  | .fcnt => true
  | .next | .prev | .playidx | .volup | .voldn | .volset | .eqset | .repcur | .lpon | .chiprst
  | .play | .pause | .playft | .loopall | .playfold | .stop | .loopfold | .shuffle | .loopone
  | .dac | .qstate | .qvol | .qeq | .qfusb | .qfsd | .qfflash | .qffold | .lpoff | .fcntc => false

/-- The argument of a device command holds a device. -/
def Instr.wellFormed (i : Instr) : Bool :=
  !i.sel.takesDevice || (Machine.deviceOfArg i.arg).isSome

end Sys2Proof
end

