-- ==== Sys2Proof/Decode.lean ====
section
/-! DEFINITION. Reading commands and writing them down. Two encodings exist. The PORT REQUEST is a
selector code with a 16-bit argument: all 32 commands with every argument have one, and `step`
decodes it. The TRANSMIT FRAME is the 8-byte format of spec/opcode_table.json (R91, R101): it is what
a wire command puts on the line, and reading one back gives the command that sends it. -/

namespace Sys2Proof

open Machine (loByte hiByte txFrame deviceOfArg argOfDevice deviceByte deviceOfByte)

/-- Why bytes or a request name no command. -/
inductive DecodeError where
  /-- a transmit frame is eight bytes (R91) -/
  | wrongLength
  /-- offset 0 is not 7E -/
  | wrongStart
  /-- offset 1 is not FF -/
  | wrongVersion
  /-- offset 2 is not 06 -/
  | wrongLengthByte
  /-- offset 4 is not 00 -/
  | wrongFeedback
  /-- offset 7 is not EF -/
  | wrongEnd
  /-- offset 3 is an opcode the catalog does not list (R103) -/
  | unknownOpcode
  /-- the opcode is listed and no operand makes its command send this data word -/
  | dataNotSent
  /-- the data byte of a device selection is no device's code (R231) -/
  | unknownDeviceByte
  /-- the selector code encodes no mnemonic (R105) -/
  | unknownSelector
  /-- the argument of a device command holds no device (R105) -/
  | unknownDevice
  deriving DecidableEq, Repr

/-- The opcode column of R101; the pseudo-commands own none (R113). -/
def Sel.opcode : Sel → Option Byte
  | .next => some 0x01#8
  | .prev => some 0x02#8
  | .playidx => some 0x03#8
  | .volup => some 0x04#8
  | .voldn => some 0x05#8
  | .volset => some 0x06#8
  | .eqset => some 0x07#8
  | .repcur => some 0x08#8
  | .devsel => some 0x09#8
  | .lpon => some 0x0A#8
  | .chiprst => some 0x0C#8
  | .play => some 0x0D#8
  | .pause => some 0x0E#8
  | .playft => some 0x0F#8
  | .loopall => some 0x11#8
  | .playfold => some 0x12#8
  | .stop => some 0x16#8
  | .loopfold => some 0x17#8
  | .shuffle => some 0x18#8
  | .loopone => some 0x19#8
  | .dac => some 0x1A#8
  | .qstate => some 0x42#8
  | .qvol => some 0x43#8
  | .qeq => some 0x44#8
  | .qfusb => some 0x47#8
  | .qfsd => some 0x48#8
  | .qfflash => some 0x49#8
  | .qffold => some 0x4E#8
  | .lpoff => none
  | .init => none
  | .fcnt => none
  | .fcntc => none

/-- The selectors of the 28 wire commands, in the table's order. -/
def Sel.wire : List Sel :=
  [.next, .prev, .playidx, .volup, .voldn, .volset, .eqset, .repcur, .devsel, .lpon, .chiprst, .play,
   .pause, .playft, .loopall, .playfold, .stop, .loopfold, .shuffle, .loopone, .dac, .qstate, .qvol,
   .qeq, .qfusb, .qfsd, .qfflash, .qffold]

/-- All 32 selectors (R113). -/
def Sel.all : List Sel := Sel.wire ++ [.lpoff, .init, .fcnt, .fcntc]

/-- The port's code of a selector: any injective code will do (R105). A wire command has its opcode,
and the pseudo-commands have F0 to F3, which are no listed opcodes. DESIGN CHOICE, log 8. -/
def Sel.code (s : Sel) : Byte :=
  match s.opcode with
  | some op => op
  | none =>
    match s with
    | .lpoff => 0xF0#8
    | .init => 0xF1#8
    | .fcnt => 0xF2#8
    | _ => 0xF3#8

/-- The selector of a port code. -/
def Sel.ofCode (c : Byte) : Option Sel := Sel.all.find? fun s => s.code = c

/-- The wire command of an opcode (R101, R103). -/
def Sel.ofOpcode (op : Byte) : Option Sel := Sel.wire.find? fun s => s.opcode = some op

/-- The command a port request names; a code of no mnemonic and a device command without a device
are not accepted (R105, decision D31). -/
def decodeRequest (r : PortRequest) : Except DecodeError Instr :=
  match Sel.ofCode r.code with
  | none => .error .unknownSelector
  | some s =>
    if s.takesDevice && (deviceOfArg r.arg).isNone then .error .unknownDevice
    else .ok (s.instr r.arg)

/-- The port request that presents a command. -/
def encodeRequest (i : Instr) : PortRequest := { code := i.sel.code, arg := i.arg }

/-- The data word `lo`, `hi` of a transmit frame, which lies low byte first (R66). -/
def frameWord (lo hi : Byte) : Word := hi ++ lo

/-- The argument whose command sends the data bytes `lo`, `hi`: the inverse of the operand column of
R101. The volume that sends `u` units is `percent(u)`; an on/off argument is 0 or 1. -/
def frameArg (dc : DeviceCode) (s : Sel) (lo hi : Byte) : Except DecodeError Word :=
  match s with
  | .playidx | .playft | .playfold | .loopfold | .qffold => .ok (frameWord lo hi)
  | .volset =>
    if hi = 0 ∧ lo.toNat ≤ 30 then .ok (BitVec.ofNat 16 (Machine.percent lo.toNat))
    else .error .dataNotSent
  | .eqset => if hi = 0 ∧ lo.toNat ≤ 5 then .ok (frameWord lo hi) else .error .dataNotSent
  | .loopall => if hi = 0 ∧ lo.toNat ≤ 1 then .ok (frameWord lo hi) else .error .dataNotSent
  | .loopone | .dac =>
    if hi = 0 ∧ lo.toNat ≤ 1 then .ok (1#16 - frameWord lo hi) else .error .dataNotSent
  | .devsel =>
    if hi = 0 then
      match deviceOfByte dc lo with
      | some d => .ok (argOfDevice d)
      | none => .error .unknownDeviceByte
    else .error .dataNotSent
  | .next | .prev | .volup | .voldn | .repcur | .lpon | .chiprst | .play | .pause | .stop | .shuffle
  | .qstate | .qvol | .qeq | .qfusb | .qfsd | .qfflash =>
    if hi = 0 ∧ lo = 0 then .ok 0#16 else .error .dataNotSent
  | .lpoff | .init | .fcnt | .fcntc => .error .unknownOpcode

/-- The wire command that sends a transmit frame: the eight bytes of R91, the opcode map of R101, and
no frame of a neighbour (R103). -/
def decodeFrame (dc : DeviceCode) : List Byte → Except DecodeError Instr
  | [b0, b1, b2, op, fb, lo, hi, b7] =>
    if b0 ≠ Machine.startMarker then .error .wrongStart
    else if b1 ≠ Machine.versionByte then .error .wrongVersion
    else if b2 ≠ Machine.lengthByte then .error .wrongLengthByte
    else if fb ≠ Machine.feedbackByte then .error .wrongFeedback
    else if b7 ≠ Machine.endMarker then .error .wrongEnd
    else match Sel.ofOpcode op with
      | none => .error .unknownOpcode
      | some s =>
        match frameArg dc s lo hi with
        | .ok a => .ok (s.instr a)
        | .error e => .error e
  | _ => .error .wrongLength

/-- The data word of a wire command (the column `w` of R101); `none` for a pseudo-command and for a
device selection without a device. -/
def Instr.dataWord (p : Params) : Instr → Option Word
  | .next _ => some 0#16
  | .prev _ => some 0#16
  | .playidx a => some a
  | .volup _ => some 0#16
  | .voldn _ => some 0#16
  | .volset a => some (BitVec.ofNat 16 (Machine.units p.roundTie a.toInt))
  | .eqset a => some (BitVec.ofNat 16 (Machine.coerce a.toInt))
  | .repcur _ => some 0#16
  | .devsel a => (deviceOfArg a).map fun d => (deviceByte p.deviceCode d).setWidth 16
  | .lpon _ => some 0#16
  | .chiprst _ => some 0#16
  | .play _ => some 0#16
  | .pause _ => some 0#16
  | .playft a => some a
  | .loopall a => some (if Machine.argOn a then 1#16 else 0#16)
  | .playfold a => some a
  | .stop _ => some 0#16
  | .loopfold a => some a
  | .shuffle _ => some 0#16
  | .loopone a => some (if Machine.argOn a then 0#16 else 1#16)
  | .dac a => some (if Machine.argOn a then 0#16 else 1#16)
  | .qstate _ => some 0#16
  | .qvol _ => some 0#16
  | .qeq _ => some 0#16
  | .qfusb _ => some 0#16
  | .qfsd _ => some 0#16
  | .qfflash _ => some 0#16
  | .qffold a => some a
  | .lpoff _ => none
  | .init _ => none
  | .fcnt _ => none
  | .fcntc _ => none

/-- The transmit frame of a wire command (R96, R101); `none` where R101 has no row. -/
def encodeFrame (p : Params) (i : Instr) : Option (List Byte) :=
  match i.sel.opcode, i.dataWord p with
  | some op, some w => some (txFrame op w)
  | _, _ => none

/-- The eight bytes of a 64-bit number, offset 0 most significant (R10, R91, decision D32). -/
def frameBytes (w : Nat) : List Byte :=
  [56, 48, 40, 32, 24, 16, 8, 0].map fun k => BitVec.ofNat 8 (w / 2 ^ k)

/-- The command a row's word stands for: a row of the table is one 64-bit number and its frame has
offset 0 in bits 63 to 56. A device selection is read under the default DEVICE_CODE. Log 10. -/
def decodeTableWord (nbits w : Nat) : Option Instr :=
  if nbits = 64 ∧ w < 2 ^ 64 then
    match decodeFrame Machine.standardDeviceCode (frameBytes w) with
    | .ok i => some i
    | .error _ => none
  else none

end Sys2Proof
end

