-- ==== Sys2Proof/Machine/State.lean ====
section
/-! DEFINITION. The state of the block and of its environment (spec/10_state.md), the reasons a step
can stop, and the state after reset. -/

namespace Sys2Proof.Machine

/-- PHASE: what the block does next (R23). -/
inductive Phase where
  /-- no command in progress -/
  | idle
  /-- a transmit frame is being handed to the transport -/
  | tx
  /-- the settle delay is running -/
  | settle
  /-- decode attempts are running -/
  | drain
  /-- initialization failed; only `reset` leaves it -/
  | failed
  deriving DecidableEq, Repr, Inhabited

/-- What follows the turns that a state lists: with it a state names an order of turns without end, as
plain data (R22; R338 asks for the endless ones). Log 12. -/
inductive TurnsAfter where
  /-- nobody is named, and the agent that is due moves: the model's default order -/
  | due
  /-- these agents, again and again -/
  | cycle (first : Agent) (rest : List Agent)
  /-- any order at all: the free sequence of turns, from its n-th entry on -/
  | free (n : Nat)
  deriving DecidableEq, Repr

/-- The block's registers (R23 to R36), the environment's two byte streams (R45, R46), and five
fields of the model's own: the parameters, the host's pending requests, the agents' next turns and
what follows them, and the counter of `reset` steps. -/
structure State where
  /-- PHASE (R23) -/
  phase : Phase
  /-- TXIDX, the offset of the next transmit byte (R24) -/
  txIdx : BitVec 3
  /-- MSTEP, which wire command of `INIT` runs (R25) -/
  mstep : BitVec 1
  /-- CMD_SEL (R26) -/
  cmdSel : Sel
  /-- CMD_ARG (R26) -/
  cmdArg : Word
  /-- TX_OP (R27) -/
  txOp : Byte
  /-- TX_LO (R27) -/
  txLo : Byte
  /-- TX_HI (R27) -/
  txHi : Byte
  /-- SETTLE_MS, the settle timer (R28) -/
  settleMs : BitVec 10
  /-- LAST_VALID (R29) -/
  lastValid : Bool
  /-- LAST_OP (R29) -/
  lastOp : Byte
  /-- LAST_DW (R29) -/
  lastDw : Word
  /-- RES_VALID (R30) -/
  resValid : Bool
  /-- RES_OP (R31) -/
  resOp : Byte
  /-- RES_DW (R32) -/
  resDw : Word
  /-- RES_VAL (R33) -/
  resVal : BitVec 32
  /-- CURDEV, the current device (R34) -/
  curdev : Device
  /-- CUREQ, the current equalizer setting (R35) -/
  cureq : Equalizer
  /-- FAULT_INIT (R36) -/
  faultInit : Bool
  /-- RXFIFO, oldest byte first (R45) -/
  rxFifo : List Byte
  /-- TXLOG, oldest byte first (R46) -/
  txLog : List Byte
  /-- the parameters of R8; no step writes them (log 1) -/
  params : Params
  /-- the requests the host will present, next one first (log 11) -/
  requests : List PortRequest
  /-- whose turn comes next, in order (log 12) -/
  turns : List Agent
  /-- whose turns follow those (log 12) -/
  turnsAfter : TurnsAfter
  /-- how many `reset` steps have been taken; the free values of R320 hang on it (log 6) -/
  resets : Nat
  deriving DecidableEq, Repr

/-- Nothing in the spec stops the block with a fault: initialization failure is a state the block
goes to (R290), and every other error class ends in an ordinary next state (R280). So there is no
constructor, and no step can answer a fault. -/
inductive Fault where
  deriving DecidableEq, Repr

/-- Why a step takes no next state. -/
inductive Refusal where
  /-- raised by an arm of `exec` whose command has no meaning yet; safe -/
  | notModelled (mnemonic : String)
  /-- raised by `issue` while PHASE is TX, SETTLE or DRAIN: the step is not enabled (R133, U9); safe -/
  | portBusy
  /-- raised by `issue` while PHASE is FAILED: the host has no step until reset (R133, R292); safe -/
  | portFailed
  /-- raised by `issue` for a selector code of no mnemonic or a device code of no device, which a
  build must not accept (R105, U10); safe -/
  | notAccepted (why : DecodeError)
  deriving DecidableEq, Repr

/-- The machine right after its first reset (R50, R320): the values R50 states, and for what it calls
unspecified the values of log 6 (DESIGN CHOICE: zero and the first selector) and the open byte
sequence of log 7. -/
def State.reset : State :=
  { phase := .idle
    txIdx := 0#3
    mstep := 0#1
    cmdSel := .next
    cmdArg := 0#16
    txOp := 0#8
    txLo := 0#8
    txHi := 0#8
    settleMs := 0#10
    lastValid := false
    lastOp := 0#8
    lastDw := 0#16
    resValid := false
    resOp := 0#8
    resDw := 0#16
    resVal := 0#32
    curdev := buildParams.initDevice
    cureq := buildParams.initEq
    faultInit := false
    rxFifo := Config.rxFifoAtReset
    txLog := []
    params := buildParams
    requests := []
    turns := []
    turnsAfter := .due
    resets := 0 }

end Sys2Proof.Machine
end

