-- ==== Sys2Proof/Machine/Ops.lean ====
section
/-! DEFINITION. The named operations over the registers and the two streams: the transport's three
operations (spec/20_memory.md R62 to R64), the parts of the `issue` step (R131), the result
registers (R148), initialization failure, which is the block's one trap (R290), and the reset that
is the one way out of it (R292, R320). -/

namespace Sys2Proof.Machine

/-- What a step or a meaning answers. -/
abbrev Result := Host.Outcome State Fault Refusal

/-- `TxWrite(b)` (R62). -/
def State.txWrite (s : State) (b : Byte) : State := { s with txLog := s.txLog ++ [b] }

/-- `RxAvail()` (R63). -/
def State.rxAvail (s : State) : Nat := s.rxFifo.length

/-- What `RxRead(n)` returns: at most `n` bytes, and it never waits (R64). -/
def State.rxChunk (s : State) (n : Nat) : List Byte := s.rxFifo.take n

/-- What `RxRead(n)` leaves: the bytes it returns are gone (R64). -/
def State.rxDrop (s : State) (n : Nat) : State := { s with rxFifo := s.rxFifo.drop n }

/-- The step `rx_byte(b)`: a byte that finds the buffer full is lost (R48). -/
def State.rxByte (s : State) (b : Byte) : State :=
  match s.params.rxCapacity with
  | none => { s with rxFifo := s.rxFifo ++ [b] }
  | some c => if s.rxFifo.length < c then { s with rxFifo := s.rxFifo ++ [b] } else s

/-- The writes every `issue` makes (R131, first line). -/
def State.latchCommand (s : State) (sel : Sel) (arg : Word) : State :=
  { s with cmdSel := sel, cmdArg := arg, mstep := 0#1 }

/-- Entering TX with a frame to send (R131, R142). -/
def State.loadFrame (s : State) (op : Byte) (w : Word) : State :=
  { s with txOp := op, txLo := loByte w, txHi := hiByte w, txIdx := 0#3, phase := .tx }

/-- The four result registers, written together (R30 to R33, R148). -/
def State.writeResult (s : State) (valid : Bool) (op : Byte) (dw : Word) (val : BitVec 32) : State :=
  { s with resValid := valid, resOp := op, resDw := dw, resVal := val }

/-- The result registers of no response (R131, R148, R284). -/
def State.clearResult (s : State) : State := s.writeResult false 0#8 0#16 0#32

/-- The session register CURDEV (R34). -/
def State.setDevice (s : State) (d : Device) : State := { s with curdev := d }

/-- The session register CUREQ (R35). -/
def State.setEqualizer (s : State) (e : Equalizer) : State := { s with cureq := e }

/-- The host's queue of requests (log 11). -/
def State.setRequests (s : State) (rs : List PortRequest) : State := { s with requests := rs }

/-- The list of turns to come (log 12). -/
def State.setTurns (s : State) (ts : List Agent) : State := { s with turns := ts }

/-- What follows the listed turns (log 12). -/
def State.setTurnsAfter (s : State) (a : TurnsAfter) : State := { s with turnsAfter := a }

/-- `issue` is enabled in IDLE only; elsewhere the port does not latch (R131, R133, U9). -/
def whenIdle (s t : State) : Result :=
  match s.phase with
  | .idle => .next t
  | .tx | .settle | .drain => .refused .portBusy
  | .failed => .refused .portFailed

/-- `issue` of a command whose plan is a frame `(op, w)` (R131). -/
def issueFrame (sel : Sel) (arg : Word) (op : Byte) (w : Word) (s : State) : Result :=
  whenIdle s ((s.latchCommand sel arg).loadFrame op w)

/-- `issue` of a command whose plan is `skip`: it is complete in this step (R131, R262). -/
def issueSkip (sel : Sel) (arg : Word) (s : State) : Result :=
  whenIdle s (s.latchCommand sel arg).clearResult

/-- `DEVICE_CODE(dev)` as a data word (R130, R231). -/
def State.deviceWord (s : State) (d : Device) : Word :=
  (deviceByte s.params.deviceCode d).setWidth 16

/-- `issue` of a command whose operand is a device: a code of no device is not accepted (R105, U10). -/
def withDevice (arg : Word) (k : Device → Result) : Result :=
  match deviceOfArg arg with
  | some d => k d
  | none => .refused (.notAccepted .unknownDevice)

/-- `issue` of a file count of a device (R130, R262). -/
def issueFileCount (sel : Sel) (arg : Word) (d : Device) (s : State) : Result :=
  match fileCountOp d with
  | some op => issueFrame sel arg op 0#16 s
  | none => issueSkip sel arg s

/-- `raise InitFailure`: the block's one trap. Nothing is saved, there is no vector, and the block
goes to FAILED (R290). -/
def State.raiseInitFailure (s : State) : State :=
  { s.clearResult with mstep := 0#1, faultInit := true, phase := .failed }

/-- The step `reset`, the only way out of FAILED (R292, R320). The registers R320 calls unspecified
take free values (log 6); the two streams, the parameters and what the host and the agents will do
next are not the block's and stay. -/
def State.resetBlock (s : State) : State :=
  { s with
    phase := .idle
    txIdx := 0#3
    mstep := 0#1
    cmdSel := Config.cmdSelAfterReset s.resets
    cmdArg := Config.cmdArgAfterReset s.resets
    txOp := Config.txOpAfterReset s.resets
    txLo := Config.txLoAfterReset s.resets
    txHi := Config.txHiAfterReset s.resets
    settleMs := 0#10
    lastValid := false
    lastOp := Config.lastOpAfterReset s.resets
    lastDw := Config.lastDwAfterReset s.resets
    resValid := false
    resOp := 0#8
    resDw := 0#16
    resVal := 0#32
    curdev := s.params.initDevice
    cureq := s.params.initEq
    faultInit := false
    resets := s.resets + 1 }

end Sys2Proof.Machine
end

