-- ==== Sys2Proof/Machine/DevicePower.lean ====
section
/-! DEFINITION. Device selection, low power, chip reset and initialization (spec/44_device_power.md). -/

namespace Sys2Proof.Machine

/-- `DEVSEL` (R230): the device is retained and sent. -/
def execDevsel (arg : Word) (s : State) : Result :=
  withDevice arg fun d => issueFrame .devsel arg 0x09#8 (s.deviceWord d) (s.setDevice d)

/-- `LPON` (R232): its `arg` is ignored. -/
def execLpon (arg : Word) (s : State) : Result := issueFrame .lpon arg 0x0A#8 0#16 s

/-- `LPOFF` (R234): it selects the retained device again, which it does not write. -/
def execLpoff (arg : Word) (s : State) : Result :=
  issueFrame .lpoff arg 0x09#8 (s.deviceWord s.curdev) s

/-- `CHIPRST` (R236): its `arg` is ignored. -/
def execChiprst (arg : Word) (s : State) : Result := issueFrame .chiprst arg 0x0C#8 0#16 s

/-- `INIT` (R238): its first wire command selects the device; `settled` starts the second, the state
query (R142). -/
def execInit (arg : Word) (s : State) : Result :=
  withDevice arg fun d => issueFrame .init arg 0x09#8 (s.deviceWord d) (s.setDevice d)

end Sys2Proof.Machine
end

