-- ==== Sys2Proof/Machine/PlayModes.lean ====
section
/-! DEFINITION. The play-mode and output commands (spec/43_play_modes.md): on is 1 for `LOOPALL` and 0 for
`LOOPONE` and `DAC` (decision D14). -/

namespace Sys2Proof.Machine

/-- `REPCUR` (R210): its `arg` is ignored. -/
def execRepcur (arg : Word) (s : State) : Result := issueFrame .repcur arg 0x08#8 0#16 s

/-- `LOOPALL` (R211): 1 for on. -/
def execLoopall (arg : Word) (s : State) : Result :=
  issueFrame .loopall arg 0x11#8 (if argOn arg then 1#16 else 0#16) s

/-- `LOOPFOLD` (R212): the folder word is passed through. -/
def execLoopfold (arg : Word) (s : State) : Result := issueFrame .loopfold arg 0x17#8 arg s

/-- `SHUFFLE` (R213): its `arg` is ignored. -/
def execShuffle (arg : Word) (s : State) : Result := issueFrame .shuffle arg 0x18#8 0#16 s

/-- `LOOPONE` (R214): the polarity is inverted, 0 for on. -/
def execLoopone (arg : Word) (s : State) : Result :=
  issueFrame .loopone arg 0x19#8 (if argOn arg then 0#16 else 1#16) s

/-- `DAC` (R215): the polarity is inverted, 0 for enable. -/
def execDac (arg : Word) (s : State) : Result :=
  issueFrame .dac arg 0x1A#8 (if argOn arg then 0#16 else 1#16) s

end Sys2Proof.Machine
end

