-- ==== Sys2Proof/Machine/Playback.lean ====
section
/-! DEFINITION. The playback and track-addressing commands (spec/41_playback.md): one frame each, sent as
R131 issues it. -/

namespace Sys2Proof.Machine

/-- `NEXT` (R170): its `arg` is ignored. -/
def execNext (arg : Word) (s : State) : Result := issueFrame .next arg 0x01#8 0#16 s

/-- `PREV` (R171): its `arg` is ignored. -/
def execPrev (arg : Word) (s : State) : Result := issueFrame .prev arg 0x02#8 0#16 s

/-- `PLAYIDX` (R172): the 16-bit track index is the data word. -/
def execPlayidx (arg : Word) (s : State) : Result := issueFrame .playidx arg 0x03#8 arg s

/-- `PLAY` (R173): its `arg` is ignored. -/
def execPlay (arg : Word) (s : State) : Result := issueFrame .play arg 0x0D#8 0#16 s

/-- `PAUSE` (R174): its `arg` is ignored. -/
def execPause (arg : Word) (s : State) : Result := issueFrame .pause arg 0x0E#8 0#16 s

/-- `PLAYFT` (R176): the folder and track word is passed through. -/
def execPlayft (arg : Word) (s : State) : Result := issueFrame .playft arg 0x0F#8 arg s

/-- `PLAYFOLD` (R177): the folder word is passed through. -/
def execPlayfold (arg : Word) (s : State) : Result := issueFrame .playfold arg 0x12#8 arg s

/-- `STOP` (R175): its `arg` is ignored. -/
def execStop (arg : Word) (s : State) : Result := issueFrame .stop arg 0x16#8 0#16 s

end Sys2Proof.Machine
end

