-- ==== Sys2Proof/Machine/Queries.lean ====
section
/-! DEFINITION. The query commands and the two file-count pseudo-commands (spec/45_queries.md). The answer is
collected by the drain and written by the completion action (R145, R148). -/

namespace Sys2Proof.Machine

/-- `QSTATE` (R250): its `arg` is ignored. -/
def execQstate (arg : Word) (s : State) : Result := issueFrame .qstate arg 0x42#8 0#16 s

/-- `QVOL` (R252): its `arg` is ignored. -/
def execQvol (arg : Word) (s : State) : Result := issueFrame .qvol arg 0x43#8 0#16 s

/-- `QEQ` (R254): its `arg` is ignored. -/
def execQeq (arg : Word) (s : State) : Result := issueFrame .qeq arg 0x44#8 0#16 s

/-- `QFUSB` (R256): its `arg` is ignored. -/
def execQfusb (arg : Word) (s : State) : Result := issueFrame .qfusb arg 0x47#8 0#16 s

/-- `QFSD` (R257): its `arg` is ignored. -/
def execQfsd (arg : Word) (s : State) : Result := issueFrame .qfsd arg 0x48#8 0#16 s

/-- `QFFLASH` (R258): its `arg` is ignored. -/
def execQfflash (arg : Word) (s : State) : Result := issueFrame .qfflash arg 0x49#8 0#16 s

/-- `QFFOLD` (R260): the folder word is passed through. -/
def execQffold (arg : Word) (s : State) : Result := issueFrame .qffold arg 0x4E#8 arg s

/-- `FCNT` (R262): the count of the device it names; nothing is sent for `AUX` and `SLEEP`. -/
def execFcnt (arg : Word) (s : State) : Result :=
  withDevice arg fun d => issueFileCount .fcnt arg d s

/-- `FCNTC` (R264): as `FCNT` of the retained device. -/
def execFcntc (arg : Word) (s : State) : Result :=
  issueFileCount .fcntc arg s.curdev s

end Sys2Proof.Machine
end

