-- ==== Sys2Proof/Machine/VolumeEqualizer.lean ====
section
/-! DEFINITION. The volume and equalizer commands (spec/42_volume_equalizer.md): out-of-range operands are
clamped or coerced, never rejected (R286). -/

namespace Sys2Proof.Machine

/-- `VOLUP` (R190): its `arg` is ignored. -/
def execVolup (arg : Word) (s : State) : Result := issueFrame .volup arg 0x04#8 0#16 s

/-- `VOLDN` (R191): its `arg` is ignored. -/
def execVoldn (arg : Word) (s : State) : Result := issueFrame .voldn arg 0x05#8 0#16 s

/-- `VOLSET` (R192): the percentage is read as a signed integer, clamped and scaled. -/
def execVolset (arg : Word) (s : State) : Result :=
  issueFrame .volset arg 0x06#8 (BitVec.ofNat 16 (units s.params.roundTie arg.toInt)) s

/-- `EQSET` (R196): the index is read as a signed integer and coerced, retained and sent. -/
def execEqset (arg : Word) (s : State) : Result :=
  issueFrame .eqset arg 0x07#8 (BitVec.ofNat 16 (coerce arg.toInt))
    (s.setEqualizer (equalizerOfIndex (coerce arg.toInt)))

end Sys2Proof.Machine
end

