-- ==== Sys2Proof/Machine/Dispatch.lean ====
section
/-! DEFINITION. The dispatch of a decoded command to its meaning: one arm per constructor of Instr. -/

namespace Sys2Proof.Machine

def exec (i : Instr) (s : State) : Host.Outcome State Fault Refusal :=
  match i with
  | .next arg => Sys2Proof.Machine.execNext arg s
  | .prev arg => Sys2Proof.Machine.execPrev arg s
  | .playidx arg => Sys2Proof.Machine.execPlayidx arg s
  | .volup arg => Sys2Proof.Machine.execVolup arg s
  | .voldn arg => Sys2Proof.Machine.execVoldn arg s
  | .volset arg => Sys2Proof.Machine.execVolset arg s
  | .eqset arg => Sys2Proof.Machine.execEqset arg s
  | .repcur arg => Sys2Proof.Machine.execRepcur arg s
  | .devsel arg => Sys2Proof.Machine.execDevsel arg s
  | .lpon arg => Sys2Proof.Machine.execLpon arg s
  | .chiprst arg => Sys2Proof.Machine.execChiprst arg s
  | .play arg => Sys2Proof.Machine.execPlay arg s
  | .pause arg => Sys2Proof.Machine.execPause arg s
  | .playft arg => Sys2Proof.Machine.execPlayft arg s
  | .loopall arg => Sys2Proof.Machine.execLoopall arg s
  | .playfold arg => Sys2Proof.Machine.execPlayfold arg s
  | .stop arg => Sys2Proof.Machine.execStop arg s
  | .loopfold arg => Sys2Proof.Machine.execLoopfold arg s
  | .shuffle arg => Sys2Proof.Machine.execShuffle arg s
  | .loopone arg => Sys2Proof.Machine.execLoopone arg s
  | .dac arg => Sys2Proof.Machine.execDac arg s
  | .qstate arg => Sys2Proof.Machine.execQstate arg s
  | .qvol arg => Sys2Proof.Machine.execQvol arg s
  | .qeq arg => Sys2Proof.Machine.execQeq arg s
  | .qfusb arg => Sys2Proof.Machine.execQfusb arg s
  | .qfsd arg => Sys2Proof.Machine.execQfsd arg s
  | .qfflash arg => Sys2Proof.Machine.execQfflash arg s
  | .qffold arg => Sys2Proof.Machine.execQffold arg s
  | .lpoff arg => Sys2Proof.Machine.execLpoff arg s
  | .init arg => Sys2Proof.Machine.execInit arg s
  | .fcnt arg => Sys2Proof.Machine.execFcnt arg s
  | .fcntc arg => Sys2Proof.Machine.execFcntc arg s

end Sys2Proof.Machine
end

