-- ==== Sys2Proof/Machine/Sequencer.lean ====
section
/-! DEFINITION. The steps of the sequencer and of the timebase
(spec/40_dispatch_sequencer.md R135, R140, R142, R145, R148). -/

namespace Sys2Proof.Machine

/-- The byte of the frame in progress that goes out next (R135). -/
def State.nextTxByte (s : State) : Byte :=
  (encodeTx s.txOp s.txLo s.txHi).getD s.txIdx.toNat 0#8

/-- The step `tx_byte`, enabled in TX: one byte, and with the eighth the timer is loaded (R135). -/
def txByteStep (s : State) : State :=
  if s.txIdx = 7#3 then
    { s.txWrite s.nextTxByte with txIdx := 0#3, settleMs := settleDelay s.txOp, phase := .settle }
  else
    { s.txWrite s.nextTxByte with txIdx := s.txIdx + 1#3 }

/-- The step `tick`: always enabled, and it counts only while the settle delay runs (R140). -/
def tickStep (s : State) : State :=
  if s.phase = .settle ∧ s.settleMs ≠ 0#10 then { s with settleMs := s.settleMs - 1#10 } else s

/-- The step `settled`, enabled in SETTLE when the timer has run out (R142). -/
def settledStep (s : State) : State :=
  if s.txOp ∈ querySet then { s with lastValid := false, phase := .drain }
  else if s.cmdSel = .init ∧ s.mstep = 0#1 then { s.loadFrame 0x42#8 0#16 with mstep := 1#1 }
  else { s with phase := .idle }

/-- The drain's running answer (R29, R148). -/
def State.lastAnswer (s : State) : Option (Byte × Word) :=
  if s.lastValid then some (s.lastOp, s.lastDw) else none

/-- The completion action, run inside the terminating decode attempt (R148): the result registers,
and initialization failure when the mandatory state query got no answer (R290). -/
def completeCommand (s : State) : State :=
  match s.lastAnswer with
  | some (op, dw) =>
    { s.writeResult true op dw (resultValue s.cmdSel (some (op, dw))) with
      mstep := 0#1, phase := .idle }
  | none =>
    if s.cmdSel = .init then s.raiseInitFailure
    else
      { s.writeResult false 0#8 0#16 (resultValue s.cmdSel none) with mstep := 0#1, phase := .idle }

/-- The length of a receive frame and of a chunk, RX_LEN (R8, R69). -/
def rxLen : Nat := 10

/-- The step `drain_attempt`, enabled in DRAIN: one chunk, which either decodes and becomes the running
answer or is discarded and ends the drain (R70, R145). -/
def drainAttempt (s : State) : State :=
  if s.rxAvail = 0 then completeCommand s
  else
    match decodeRx (s.rxChunk rxLen) with
    | some (op, dw) => { s.rxDrop rxLen with lastValid := true, lastOp := op, lastDw := dw }
    | none => completeCommand (s.rxDrop rxLen)

/-- The sequencer's turn: the one step its phase enables, or none (R22). -/
def sequencerStep (s : State) : State :=
  match s.phase with
  | .tx => txByteStep s
  | .settle => if s.settleMs = 0#10 then settledStep s else s
  | .drain => drainAttempt s
  | .idle => s
  | .failed => s

end Sys2Proof.Machine
end

