-- ==== Sys2Proof/Machine/Agents.lean ====
section
/-! DEFINITION. The turns of the five agents (spec/10_state.md R22), and whose turn it is. -/

namespace Sys2Proof.Machine

/-- The request the host presents next and the ones behind it. -/
def State.nextRequest (s : State) : Option (PortRequest × List PortRequest) :=
  match s.requests with
  | [] => none
  | r :: rest => some (r, rest)

/-- The host's turn: in IDLE it issues its next request, which the port decodes (R105, R131); while a
command is in flight or the block has failed it has no step and waits (R133). -/
def hostTurn (s : State) : Result :=
  if s.phase = .idle then
    match s.nextRequest with
    | none => .next s
    | some (r, rest) =>
      match decodeRequest r with
      | .ok i => exec i (s.setRequests rest)
      | .error e => .refused (.notAccepted e)
  else .next s

/-- One agent's turn; an agent that has no enabled step leaves the state as it is (R22). -/
def agentTurn (a : Agent) (s : State) : Result :=
  match a with
  | .host => hostTurn s
  | .sequencer => .next (sequencerStep s)
  | .timebase => .next (tickStep s)
  | .peripheral b => .next (s.rxByte b)
  | .reset => .next s.resetBlock

/-- Whose turn it is when nobody is named: the host's in IDLE, the timebase's while the timer
runs, else the sequencer's; in FAILED time passes. DESIGN CHOICE, log 12. -/
def State.defaultAgent (s : State) : Agent :=
  match s.phase with
  | .idle => .host
  | .tx => .sequencer
  | .settle => if s.settleMs = 0#10 then .sequencer else .timebase
  | .drain => .sequencer
  | .failed => .timebase

/-- Whose turn it is, and the turns that are left once it is taken: the listed turns first, then those
that follow them, which may go on for ever (R22, R338; log 12). -/
def State.nextTurn (s : State) : Agent × List Agent × TurnsAfter :=
  match s.turns with
  | a :: rest => (a, rest, s.turnsAfter)
  | [] =>
    match s.turnsAfter with
    | .due => (s.defaultAgent, [], .due)
    | .cycle first rest => (first, rest, .cycle first rest)
    | .free n => (Config.freeTurn n, [], .free (n + 1))

/-- The state once the next turn is taken; nothing but the turns changes. -/
def State.takeTurn (s : State) : State :=
  (s.setTurns s.nextTurn.2.1).setTurnsAfter s.nextTurn.2.2

/-- A request placed at the head of the host's queue, with the host to move next. -/
def State.presentRequest (s : State) (r : PortRequest) : State :=
  (s.setRequests (r :: s.requests)).setTurns (.host :: s.turns)

/-- The request that stands for a table word; a word that names no command becomes a request of the
selector code 0, which encodes no mnemonic. -/
def requestOfWord (nbits w : Nat) : PortRequest :=
  match decodeTableWord nbits w with
  | some i => encodeRequest i
  | none => { code := 0#8, arg := 0#16 }

end Sys2Proof.Machine
end

