-- ==== Sys2Proof/Machine/Step.lean ====
section
/-! DEFINITION. One step of the machine: one turn of one agent (spec/00_scope.md R14,
spec/10_state.md R22). -/

namespace Sys2Proof.Machine

/-- The agent whose turn it is takes it. -/
def step (s : State) : Host.Outcome State Fault Refusal :=
  agentTurn s.nextTurn.1 s.takeTurn

/-- The command of a table word, presented by the host as its next request, with the host to move
next. In IDLE, the only phase in which a host can issue (R133), the very next step issues it. -/
def State.withFetchWord (s : State) (nbits w : Nat) : State :=
  s.presentRequest (requestOfWord nbits w)

end Sys2Proof.Machine
end

