-- ==== Sys2Proof/Machine/Flags.lean ====
section
/-! DEFINITION. The block's derived outputs (spec/10_state.md R37, spec/45_queries.md R268) and what
the host can read. The block has no arithmetic condition codes (R40). -/

namespace Sys2Proof.Machine

/-- READY (R37). -/
def State.ready (s : State) : Bool := s.phase = .idle

/-- STATE_STOPPED (R8). -/
def statusStopped : Word := 0x0200#16

/-- STATE_PLAYING (R8). -/
def statusPlaying : Word := 0x0201#16

/-- STATE_PAUSED (R8). -/
def statusPaused : Word := 0x0202#16

/-- IS_STOPPED (R37, R268). -/
def State.isStopped (s : State) : Bool := s.resValid && s.resDw == statusStopped

/-- IS_PLAYING (R37, R268). -/
def State.isPlaying (s : State) : Bool := s.resValid && s.resDw == statusPlaying

/-- IS_PAUSED (R37, R268). -/
def State.isPaused (s : State) : Bool := s.resValid && s.resDw == statusPaused

/-- What the host can read: the derived outputs, the result registers, the retained device and
setting, and FAULT_INIT (R31, R35, R37, R290). -/
structure StatusPort where
  ready : Bool
  isStopped : Bool
  isPlaying : Bool
  isPaused : Bool
  resValid : Bool
  resOp : Byte
  resDw : Word
  resVal : BitVec 32
  curdev : Device
  cureq : Equalizer
  faultInit : Bool
  deriving DecidableEq, Repr

/-- The host's view of a state. -/
def State.statusPort (s : State) : StatusPort :=
  { ready := s.ready
    isStopped := s.isStopped
    isPlaying := s.isPlaying
    isPaused := s.isPaused
    resValid := s.resValid
    resOp := s.resOp
    resDw := s.resDw
    resVal := s.resVal
    curdev := s.curdev
    cureq := s.cureq
    faultInit := s.faultInit }

end Sys2Proof.Machine
end

