-- ==== Sys2Proof/Safety.lean ====
section
/-! DEFINITION. What counts as the end of a command and of a run (spec/40_dispatch_sequencer.md R152),
what counts as faulted (spec/60_exceptions.md R292), and the invariant of the machine. -/

namespace Sys2Proof.Machine

/-- The accepted command is complete (R152). -/
def State.commandComplete (s : State) : Prop := s.phase = .idle

/-- The faulted state of R292: never final. -/
def State.faulted (s : State) : Prop := s.faultInit = true

/-- The run has ended: complete, not faulted, and nothing left to issue (R152, decision D33). -/
def State.runEnded (s : State) : Prop :=
  s.commandComplete ∧ ¬ s.faulted ∧ s.requests = []

/-- A command is in flight: its phase is TX, SETTLE or DRAIN (R133, R152). -/
def State.busy (s : State) : Prop := s.phase = .tx ∨ s.phase = .settle ∨ s.phase = .drain

/-- What every step keeps, from any state that has it. -/
structure State.Inv (s : State) : Prop where
  /-- the largest value loaded is 1000 (R28) -/
  timer_bound : s.settleMs.toNat ≤ 1000
  /-- the timer runs exactly in SETTLE (R300) -/
  timer_settle : s.phase ≠ .settle → s.settleMs = 0#10
  /-- TXIDX counts only in TX (R24) -/
  txIdx_tx : s.phase ≠ .tx → s.txIdx = 0#3
  /-- FAULT_INIT is set together with FAILED and only `reset` clears it (R36, R290, R292) -/
  fault_failed : s.faultInit = true ↔ s.phase = .failed
  /-- the result registers are 0 where RES_VALID is (R31, R32, R284) -/
  no_answer : s.resValid = false → s.resOp = 0#8 ∧ s.resDw = 0#16 ∧ s.resVal = 0#32
  /-- the largest value any rule writes (R33) -/
  resVal_bound : s.resVal.toNat ≤ 218450
  /-- a command in flight sends a listed opcode (R103) -/
  listed : s.busy → (Sel.ofOpcode s.txOp).isSome = true
  /-- only query-class commands drain (R142, R282) -/
  drain_query : s.phase = .drain → s.txOp ∈ querySet
  /-- a query-class opcode is sent only for a command that has a result (R266) -/
  query_sel : s.busy → s.txOp ∈ querySet → drains s.cmdSel = true
  /-- MSTEP is 1 in the state query of `INIT` and 0 for every other command (R25) -/
  mstep_query : s.mstep = 1#1 → s.cmdSel = .init ∧ s.busy ∧ s.txOp = 0x42#8
  /-- the first wire command of `INIT` is the device selection, and it never drains (R142, R238) -/
  mstep_select : s.cmdSel = .init → s.mstep = 0#1 → s.busy → s.txOp = 0x09#8 ∧ s.phase ≠ .drain
  /-- the receive buffer holds no more than its capacity (R45, R48) -/
  rx_bound : ∀ c, s.params.rxCapacity = some c → s.rxFifo.length ≤ c

/-- The two states differ at most in the registers whose reset value is unspecified, and agree on those
that a step may still read before it writes them: the latches while a command is in flight, the
running answer while the drain has one (R50, R51). -/
structure AgreeWhereRead (s t : State) : Prop where
  /-- every other field is the same -/
  rest : t = { s with
    cmdSel := t.cmdSel, cmdArg := t.cmdArg, txOp := t.txOp, txLo := t.txLo, txHi := t.txHi
    lastOp := t.lastOp, lastDw := t.lastDw }
  /-- the latches of a command in flight -/
  latches : s.busy → t.cmdSel = s.cmdSel ∧ t.cmdArg = s.cmdArg ∧ t.txOp = s.txOp ∧
    t.txLo = s.txLo ∧ t.txHi = s.txHi
  /-- the running answer of a drain that has one -/
  answer : s.phase = .drain → s.lastValid = true → t.lastOp = s.lastOp ∧ t.lastDw = s.lastDw

/-- The bytes the peripheral sends in a sequence of turns, in order. -/
def arrivals : List Agent → List Byte
  | [] => []
  | .peripheral b :: as => b :: arrivals as
  | .host :: as => arrivals as
  | .sequencer :: as => arrivals as
  | .timebase :: as => arrivals as
  | .reset :: as => arrivals as

/-- How many milliseconds pass in a sequence of turns (R47). -/
def ticksIn (as : List Agent) : Nat := as.count .timebase

/-- `k` steps in a row, ended early by a step that takes no next state. It is the host's run of
`Sys2Proof.core` (Sys2Proof/Laws/Run.lean), over `State` itself. -/
def run : Nat → State → Result
  | 0, s => .next s
  | k + 1, s =>
    match step s with
    | .next t => run k t
    | .fault f => .fault f
    | .refused r => .refused r

end Sys2Proof.Machine
end

