-- ==== Sys2Proof/Certificates/Slice0/Obligations.lean ====
section
/-! DEFINITION. The statements for the provers. Each docstring names the rule of spec/ it says, or
the log entry where the statement rests on a choice of the model. Where a step is stated, `turns`
names the agent that moves: that is how the model renders R22's free order between agents (log 12). -/

open Sys2Proof Sys2Proof.Machine

namespace Sys2Proof.Claims

/-- The state after an `issue` whose plan is the frame `(op, w)`, as R131 writes it. -/
def issued (s : State) (sel : Sel) (arg : Word) (op : Byte) (w : Nat) : State :=
  { s with
    cmdSel := sel
    cmdArg := arg
    mstep := 0
    txOp := op
    txLo := BitVec.ofNat 8 (w % 256)
    txHi := BitVec.ofNat 8 (w / 256)
    txIdx := 0
    phase := .tx }

/-- The state after an `issue` whose plan is `skip`, as R131 writes it. -/
def skipped (s : State) (sel : Sel) (arg : Word) : State :=
  { s with
    cmdSel := sel
    cmdArg := arg
    mstep := 0
    resValid := false
    resOp := 0
    resDw := 0
    resVal := 0 }

/-- The selectors of the commands that drain (R266). -/
def querySels : List Sel :=
  [.qstate, .init, .qvol, .qeq, .qfusb, .qfsd, .qfflash, .qffold, .fcnt, .fcntc]

/-- RES_VAL for an answer with the data word `dw` (R266). -/
def answerValue (sel : Sel) (dw : Word) : BitVec 32 :=
  if sel = .qvol then BitVec.ofNat 32 ((10 * dw.toNat + 1) / 3) else BitVec.ofNat 32 dw.toNat

/-- The host's next request is a file count of a device that has no files to count, so nothing is sent
(R130, R262, R264). -/
def nextRequestSkips (s : State) : Prop :=
  ∃ r rest i, s.requests = r :: rest ∧ decodeRequest r = .ok i ∧
    ((i.sel = .fcnt ∧ (deviceOfArg i.arg = some .aux ∨ deviceOfArg i.arg = some .sleep)) ∨
     (i.sel = .fcntc ∧ (s.curdev = .aux ∨ s.curdev = .sleep)))

/-- The arguments that `decodeFrame` gives back, one for each frame: every word where 16 bits are passed
through, and else the model's choice among the arguments that send the same frame (logs 9 and 10): 0
where there is no operand, `percent` of the units for `VOLSET`, the index 0 to 5 for `EQSET`, 0 or 1
where one bit counts, and the device codes 0 to 4 for `DEVSEL`. -/
def canonical (i : Instr) : Prop :=
  match i with
  | .playidx _ | .playft _ | .playfold _ | .loopfold _ | .qffold _ => True
  | .volset a => ∃ u, u ≤ 30 ∧ a = BitVec.ofNat 16 (percent u)
  | .eqset a => a.toNat ≤ 5
  | .loopall a | .loopone a | .dac a => a.toNat ≤ 1
  | .devsel a => a.toNat ≤ 4
  | .lpoff _ | .init _ | .fcnt _ | .fcntc _ => False
  | .next a | .prev a | .volup a | .voldn a | .repcur a | .lpon a | .chiprst a | .play a | .pause a
  | .stop a | .shuffle a | .qstate a | .qvol a | .qeq a | .qfusb a | .qfsd a | .qfflash a => a = 0

/-- In the run of the turns `as` from `u`, the transmit stream is `log` when the settle timer of the opcode
`op` is loaded, which the frame's eighth byte does, and from there at least `delay(op)` milliseconds
pass, with nothing sent, until the timer has run out (R135, R140, R141, R151). -/
def waitsAfter (u : State) (as : List Agent) (log : List Byte) (op : Byte) : Prop :=
  ∃ before during rest loaded done, as = before ++ during ++ rest ∧
    run before.length { u with turns := as } = .next loaded ∧
    loaded.phase = .settle ∧ loaded.settleMs = settleDelay op ∧ loaded.txLog = log ∧
    run during.length loaded = .next done ∧
    done.phase = .settle ∧ done.settleMs = 0 ∧ done.txLog = log ∧
    (settleDelay op).toNat ≤ ticksIn during

/-- In the run of the turns `as` from `u`, the drain's first decode attempt comes after the turns `before`,
in the state `w` (R142, R145). -/
def firstAttempt (u : State) (as before : List Agent) (w : State) : Prop :=
  (∃ rest, as = before ++ .sequencer :: rest) ∧
  run before.length { u with turns := as } = .next w ∧ w.phase = .drain ∧ w.lastValid = false

end Sys2Proof.Claims

open Sys2Proof.Claims

/-! ### The frame codec -/

/-- R94: the encoder's eight bytes; `lo` lies at offset 5 and `hi` at offset 6; a command with no operand
sends both as 0. -/
def Obligations.EncodeIsTheEightByteFrame : Prop :=
  (∀ op lo hi : Byte, encodeTx op lo hi = [0x7E, 0xFF, 0x06, op, 0x00, lo, hi, 0xEF] ∧
    (encodeTx op lo hi)[5]? = some lo ∧ (encodeTx op lo hi)[6]? = some hi) ∧
  ∀ op : Byte, txFrame op 0 = [0x7E, 0xFF, 0x06, op, 0x00, 0x00, 0x00, 0xEF]

/-- R66: offset 5 is `w mod 256`, offset 6 is `w div 256`, and a one-byte operand goes to offset 5
with offset 6 zero. -/
def Obligations.TransmitSplitsTheWordLowByteFirst : Prop :=
  (∀ (op : Byte) (w : Word),
    (txFrame op w)[5]? = some (BitVec.ofNat 8 (w.toNat % 256)) ∧
    (txFrame op w)[6]? = some (BitVec.ofNat 8 (w.toNat / 256)) ∧
    txFrame op w = encodeTx op (BitVec.ofNat 8 (w.toNat % 256)) (BitVec.ofNat 8 (w.toNat / 256))) ∧
  ∀ (op v : Byte), txFrame op (v.setWidth 16) = encodeTx op v 0x00

/-- R98: which buffers decode, and to what; every other buffer gives no frame. -/
def Obligations.DecodeAcceptsExactlyTheReceiveFrames : Prop :=
  ∀ (buf : List Byte) (op : Byte) (dw : Word),
    decodeRx buf = some (op, dw) ↔
      buf.length = 10 ∧ buf[0]? = some 0x7E ∧ buf[1]? = some 0xFF ∧ buf[2]? = some 0x06 ∧
      buf[9]? = some 0xEF ∧ buf[3]? = some op ∧
      ∃ hi lo : Byte, buf[5]? = some hi ∧ buf[6]? = some lo ∧ dw.toNat = hi.toNat * 256 + lo.toNat

/-- R68, with R66 and R67: the data bytes of a transmit frame, read as a receive frame's, are the byte
swap of the word that was sent; and a transmit frame itself never decodes. -/
def Obligations.DirectionsDisagreeByAByteSwap : Prop :=
  ∀ (op f x y : Byte) (w : Word),
    (∃ dw : Word, dw.toNat = (w.toNat % 256) * 256 + w.toNat / 256 ∧
      decodeRx ([0x7E, 0xFF, 0x06, op, f] ++ ((txFrame op w).drop 5).take 2 ++ [x, y, 0xEF]) =
        some (op, dw)) ∧
    decodeRx (txFrame op w) = none

/-- R138: the settle delay of every opcode byte. That SLOW_SET is the wide set, so that a volume, equalizer
or file-count query waits 200 ms, is the spec's own decision D5 and the model's choice (log 15). -/
def Obligations.SettleDelayOfEveryOpcode : Prop :=
  ∀ op : Byte,
    (op = 0x0C → settleDelay op = 1000) ∧
    (op ∈ [0x09, 0x42, 0x43, 0x44, 0x47, 0x48, 0x49, (0x4E : Byte)] → settleDelay op = 200) ∧
    (op ∉ [0x0C, 0x09, 0x42, 0x43, 0x44, 0x47, 0x48, 0x49, (0x4E : Byte)] → settleDelay op = 30)

/-! ### Arithmetic -/

/-- R193 and R194: the integer form of the scaling, under both tie rules. -/
def Obligations.UnitsRoundsTheScaledPercentage : Prop :=
  ∀ (tie : RoundTie) (p : Int) (c : Nat), (c : Int) = clamp p 0 100 →
    (3 * c % 10 < 5 → units tie p = 3 * c / 10) ∧
    (5 < 3 * c % 10 → units tie p = 3 * c / 10 + 1) ∧
    (3 * c % 10 = 5 → units .up p = 3 * c / 10 + 1 ∧ units .even p = 3 * c / 10 + 3 * c / 10 % 2) ∧
    units .up p = (3 * c + 5) / 10 ∧
    (units .up p ≠ units .even p ↔ c ∈ [15, 35, 55, 75, 95])

/-- R195: range, clamping, monotonicity, the ends, and the round trip within 2, which is exactly 2 at
the half-way inputs. -/
def Obligations.UnitsObeysItsLaws : Prop :=
  ∀ tie : RoundTie,
    (∀ p, units tie p ≤ 30) ∧
    (∀ p, p < 0 → units tie p = units tie 0) ∧ (∀ p, 100 < p → units tie p = units tie 100) ∧
    units tie 0 = 0 ∧ units tie 1 = 0 ∧ units tie 2 = 1 ∧ units tie 98 = 29 ∧ units tie 99 = 30 ∧
    units tie 100 = 30 ∧
    (∀ p q, p ≤ q → units tie p ≤ units tie q) ∧
    ∀ p : Int, 0 ≤ p → p ≤ 100 →
      ((percent (units tie p) : Int) - p).natAbs ≤ 2 ∧
      (((percent (units tie p) : Int) - p).natAbs = 2 ↔ p % 10 = 5)

/-- R198: the way back is an exact rounding in which no tie arises, and it is not clamped. -/
def Obligations.PercentIsTheExactRounding : Prop :=
  (∀ (tie : RoundTie) (u : Nat), roundDiv tie (u * 100) 30 = percent u ∧ percent u = (10 * u + 1) / 3) ∧
  percent 30 = 100 ∧ percent 31 = 103 ∧ percent 65535 = 218450

/-- R197: an index outside 0..5 becomes 0; and R35: the index names the setting that CUREQ holds. -/
def Obligations.CoerceCollapsesToNormal : Prop :=
  (∀ e : Int, (0 ≤ e ∧ e ≤ 5 → (coerce e : Int) = e) ∧ (e < 0 ∨ 5 < e → coerce e = 0)) ∧
  ∀ e : Int, equalizerIndex (equalizerOfIndex (coerce e)) = coerce e

/-! ### Decoding and encoding commands -/

/-- Every command of the port, with every argument the port's types admit, is read back from the
request that presents it. The selector codes are the model's (R105 leaves them to the build; log 8). -/
def Obligations.RequestRoundTrip : Prop :=
  ∀ i : Instr, i.wellFormed = true → decodeRequest (encodeRequest i) = .ok i

/-- R105, U10: a selector code of no mnemonic, or a device command whose argument holds no device, is
not accepted: the host's turn is refused. Which codes those are is the build's choice (logs 8, 9). -/
def Obligations.UnknownRequestsAreRefused : Prop :=
  ∀ (s : State) (r : PortRequest) (rest : List PortRequest) (ts : List Agent),
    s.phase = .idle → s.requests = r :: rest → s.turns = .host :: ts →
    ((∀ sel : Sel, sel.code ≠ r.code) → step s = .refused (.notAccepted .unknownSelector)) ∧
    (∀ sel : Sel, sel.code = r.code → sel ∈ [.devsel, .init, .fcnt] →
      5 ≤ r.arg.toNat % 8 → step s = .refused (.notAccepted .unknownDevice))

/-- A transmit frame decodes only to the command that sends it: encoding that command gives the very
eight bytes back, under every DEVICE_CODE and both tie rules (R91, R96, R101). -/
def Obligations.DecodedFrameIsSentByItsCommand : Prop :=
  ∀ (p : Params) (bs : List Byte) (i : Instr),
    decodeFrame p.deviceCode bs = .ok i → encodeFrame p i = some bs

/-- Decode of encode is the command, under every injective DEVICE_CODE (R91, R101, R231): for every wire
command, with every argument where 16 bits are passed through, and else with the one argument that the
model's decoder gives back for a frame (`canonical`: logs 9 and 10 choose it). For the other arguments
see `EveryWireFrameDecodes`. -/
def Obligations.EncodedFrameDecodesToItsCommand : Prop :=
  ∀ (p : Params) (i : Instr), distinctDeviceBytes p.deviceCode → canonical i →
    ∃ bs, encodeFrame p i = some bs ∧ decodeFrame p.deviceCode bs = .ok i

/-- Every wire command, canonical or not, has a frame that decodes to a command of the same selector
that sends the same bytes: a percentage to one of equal units, an index to its coerced one. -/
def Obligations.EveryWireFrameDecodes : Prop :=
  ∀ (p : Params) (i : Instr), i.wellFormed = true → i.sel ∈ Sel.wire →
    ∃ bs j, encodeFrame p i = some bs ∧ decodeFrame p.deviceCode bs = .ok j ∧
      j.sel = i.sel ∧ encodeFrame p j = some bs

/-- R103: a frame whose opcode the catalog does not list names no command, whatever its data. -/
def Obligations.UnlistedOpcodesNameNoCommand : Prop :=
  ∀ (dc : DeviceCode) (op lo hi : Byte),
    op ∉ [0x01, 0x02, 0x03, 0x04, 0x05, 0x06, 0x07, 0x08, 0x09, 0x0A, 0x0C, 0x0D, 0x0E, 0x0F, 0x11,
      0x12, 0x16, 0x17, 0x18, 0x19, 0x1A, 0x42, 0x43, 0x44, 0x47, 0x48, 0x49, (0x4E : Byte)] →
    decodeFrame dc (encodeTx op lo hi) = .error .unknownOpcode

/-- Words written out from the table decode to the commands they stand for (R91, R101); the device
selection is read under the default DEVICE_CODE (log 3). -/
def Obligations.TableWordsDecode : Prop :=
  decodeTableWord 64 0x7EFF060D000000EF = some (.play 0) ∧
  decodeTableWord 64 0x7EFF0603002C01EF = some (.playidx 300) ∧
  decodeTableWord 64 0x7EFF0606000F00EF = some (.volset 50) ∧
  decodeTableWord 64 0x7EFF0619000100EF = some (.loopone 0) ∧
  decodeTableWord 64 0x7EFF0609000200EF = some (.devsel (argOfDevice .sd)) ∧
  decodeTableWord 64 0x7EFF064E001001EF = some (.qffold 0x0110) ∧
  decodeTableWord 64 0x7EFF060B000000EF = none

/-! ### One step -/

/-- When the block is IDLE and the turn is the host's, a step is `exec` of the command that the host's next
request decodes to, with that request and that turn taken. The turn is the host's where the list names
the host, and where nobody is named at all. The queue and the turns are the model's (logs 11, 12). -/
def Obligations.StepRunsTheIssuedCommand : Prop :=
  ∀ (s : State) (r : PortRequest) (rest : List PortRequest) (i : Instr),
    s.phase = .idle → s.requests = r :: rest → decodeRequest r = .ok i →
    (s.nextTurn.1 = .host →
      step s = exec i { s with requests := rest, turns := s.takeTurn.turns
                               turnsAfter := s.takeTurn.turnsAfter }) ∧
    (∀ ts, s.turns = .host :: ts → step s = exec i { s with requests := rest, turns := ts }) ∧
    (s.turns = [] → s.turnsAfter = .due → step s = exec i { s with requests := rest })

/-- A table word placed by `withFetchWord` is what the very next step runs, from any IDLE state, and
the rest of the state is as it was (logs 10, 11). -/
def Obligations.FetchedWordRunsNext : Prop :=
  ∀ (s : State) (w : Nat) (i : Instr), s.phase = .idle → decodeTableWord 64 w = some i →
    step (s.withFetchWord 64 w) = exec i s

/-- R133: `issue` is enabled in no other phase than IDLE, for any command, and the host's turn then
changes nothing, so it cannot abandon or overtake a command. -/
def Obligations.HostHasNoStepWhileBusy : Prop :=
  ∀ (s : State) (i : Instr) (ts : List Agent), s.phase ≠ .idle →
    (∀ t, exec i s ≠ .next t) ∧
    step { s with turns := .host :: ts } = .next { s with turns := ts }

/-- R135: the `tx_byte` step, and that bytes and milliseconds that fall between two of them change only
RXFIFO. -/
def Obligations.TxByteSendsTheNextFrameByte : Prop :=
  (∀ (s : State) (ts : List Agent), s.phase = .tx → s.turns = .sequencer :: ts →
    ∃ b, [0x7E, 0xFF, 0x06, s.txOp, 0x00, s.txLo, s.txHi, (0xEF : Byte)][s.txIdx.toNat]? = some b ∧
      (s.txIdx.toNat < 7 → step s = .next
        { s with turns := ts, txLog := s.txLog ++ [b], txIdx := s.txIdx + 1 }) ∧
      (s.txIdx.toNat = 7 → step s = .next
        { s with turns := ts, txLog := s.txLog ++ [b], txIdx := 0
                 settleMs := settleDelay s.txOp, phase := .settle })) ∧
  ∀ (s : State) (ts : List Agent), s.phase = .tx →
    (s.turns = .timebase :: ts → step s = .next { s with turns := ts }) ∧
    ∀ b, s.turns = .peripheral b :: ts →
      ∃ rx, step s = .next { s with turns := ts, rxFifo := rx }

/-- R140: the `tick` step is always enabled and counts only in SETTLE, down to 0. -/
def Obligations.TickCountsOnlyWhileSettling : Prop :=
  ∀ (s : State) (ts : List Agent), s.turns = .timebase :: ts →
    (s.phase = .settle → 0 < s.settleMs.toNat →
      step s = .next { s with turns := ts, settleMs := s.settleMs - 1 }) ∧
    (s.phase ≠ .settle ∨ s.settleMs = 0#10 → step s = .next { s with turns := ts })

/-- R142: the `settled` step, and that it does not exist while the timer runs. -/
def Obligations.SettledChoosesWhatFollows : Prop :=
  ∀ (s : State) (ts : List Agent), s.phase = .settle → s.turns = .sequencer :: ts →
    (s.settleMs ≠ 0#10 → step s = .next { s with turns := ts }) ∧
    (s.settleMs = 0#10 → s.txOp ∈ querySet →
      step s = .next { s with turns := ts, lastValid := false, phase := .drain }) ∧
    (s.settleMs = 0#10 → s.txOp ∉ querySet → s.cmdSel = .init → s.mstep = 0#1 →
      step s = .next { s with turns := ts, mstep := 1, txOp := 0x42, txLo := 0, txHi := 0, txIdx := 0
                              phase := .tx }) ∧
    (s.settleMs = 0#10 → s.txOp ∉ querySet → (s.cmdSel ≠ .init ∨ s.mstep = 1#1) →
      step s = .next { s with turns := ts, phase := .idle })

/-- R145: a decode attempt takes at most ten bytes off the front; a chunk that decodes becomes the
running answer and the drain goes on; else the command ends, and what the attempt removed is gone
(R70). How it ends is in the statement after this one. -/
def Obligations.DrainAttemptTakesOneChunk : Prop :=
  ∀ (s : State) (ts : List Agent), s.phase = .drain → s.turns = .sequencer :: ts →
    (∀ op dw, decodeRx (s.rxFifo.take 10) = some (op, dw) →
      step s = .next { s with turns := ts, rxFifo := s.rxFifo.drop 10
                              lastValid := true, lastOp := op, lastDw := dw }) ∧
    (decodeRx (s.rxFifo.take 10) = none →
      ∃ t, step s = .next t ∧ t.phase ≠ .drain ∧ t.rxFifo = s.rxFifo.drop 10 ∧ t.txLog = s.txLog)

/-- R148: the completion action of a command that drains, for an answer, for none, and for `INIT` with
none. -/
def Obligations.CompletionWritesTheResult : Prop :=
  ∀ (s : State) (ts : List Agent), s.phase = .drain → s.turns = .sequencer :: ts →
    s.cmdSel ∈ querySels → decodeRx (s.rxFifo.take 10) = none →
    (s.lastValid = true →
      step s = .next { s with turns := ts, rxFifo := s.rxFifo.drop 10
                              resValid := true, resOp := s.lastOp, resDw := s.lastDw
                              resVal := answerValue s.cmdSel s.lastDw, mstep := 0, phase := .idle }) ∧
    (s.lastValid = false → s.cmdSel ≠ .init →
      step s = .next { s with turns := ts, rxFifo := s.rxFifo.drop 10
                              resValid := false, resOp := 0, resDw := 0, resVal := 0
                              mstep := 0, phase := .idle }) ∧
    (s.lastValid = false → s.cmdSel = .init →
      step s = .next { s with turns := ts, rxFifo := s.rxFifo.drop 10
                              resValid := false, resOp := 0, resDw := 0, resVal := 0
                              mstep := 0, faultInit := true, phase := .failed })

/-- R290: initialization failure, raised where the drain of `INIT` ends with nothing decoded: the
result registers, MSTEP, FAULT_INIT and PHASE are written, the chunk that ended the drain is gone,
and nothing else changes; and it is raised nowhere else. -/
def Obligations.InitFailureIsRaisedWithNoResponse : Prop :=
  (∀ (s : State) (ts : List Agent), s.phase = .drain → s.turns = .sequencer :: ts →
    s.cmdSel = .init → s.lastValid = false → decodeRx (s.rxFifo.take 10) = none →
    step s = .next { s with turns := ts, rxFifo := s.rxFifo.drop 10
                            resValid := false, resOp := 0, resDw := 0, resVal := 0
                            mstep := 0, faultInit := true, phase := .failed }) ∧
  ∀ s t : State, step s = .next t → s.phase ≠ .failed → t.phase = .failed →
    s.nextTurn.1 = .sequencer ∧ s.phase = .drain ∧ s.cmdSel = .init ∧ s.lastValid = false ∧
    decodeRx (s.rxFifo.take 10) = none

/-- R48: a byte may arrive in every phase; a full buffer loses it and nothing changes. -/
def Obligations.ReceivedByteIsAppendedOrLost : Prop :=
  ∀ (s : State) (b : Byte) (ts : List Agent), s.turns = .peripheral b :: ts →
    ((s.params.rxCapacity = none ∨ ∃ c, s.params.rxCapacity = some c ∧ s.rxFifo.length < c) →
      step s = .next { s with turns := ts, rxFifo := s.rxFifo ++ [b] }) ∧
    (∀ c, s.params.rxCapacity = some c → c ≤ s.rxFifo.length → step s = .next { s with turns := ts })

/-- R320: the `reset` step, from any state. The registers R320 calls unspecified are not constrained;
TXLOG stays, and the first reset left it empty. That RXFIFO stays is R322 and R342 with V64 and the
model's reading of them (log 7); that the parameters, the host's queue and the turns stay is the
model's (logs 1, 11, 12). -/
def Obligations.ResetRestoresTheBlock : Prop :=
  State.reset.txLog = [] ∧
  ∀ (s : State) (ts : List Agent), s.turns = .reset :: ts →
    ∃ t, step s = .next t ∧ t.phase = .idle ∧ t.txIdx = 0 ∧ t.mstep = 0 ∧ t.settleMs = 0 ∧
      t.lastValid = false ∧ t.resValid = false ∧ t.resOp = 0 ∧ t.resDw = 0 ∧ t.resVal = 0 ∧
      t.faultInit = false ∧ t.curdev = s.params.initDevice ∧ t.cureq = s.params.initEq ∧
      t.txLog = s.txLog ∧ t.rxFifo = s.rxFifo ∧ t.params = s.params ∧ t.requests = s.requests ∧
      t.turns = ts ∧ t.turnsAfter = s.turnsAfter

/-- R50: the values the spec gives the machine that starts. -/
def Obligations.StartStateHoldsTheResetValues : Prop :=
  State.reset.phase = .idle ∧ State.reset.txIdx = 0 ∧ State.reset.mstep = 0 ∧
  State.reset.settleMs = 0 ∧ State.reset.lastValid = false ∧ State.reset.resValid = false ∧
  State.reset.resOp = 0 ∧ State.reset.resDw = 0 ∧ State.reset.resVal = 0 ∧
  State.reset.curdev = State.reset.params.initDevice ∧
  State.reset.cureq = State.reset.params.initEq ∧ State.reset.faultInit = false ∧
  State.reset.txLog = []

/-- R37, R268: the derived outputs, of which at most one playback state holds. -/
def Obligations.PlaybackStateIsExactEquality : Prop :=
  ∀ s : State,
    (s.ready = true ↔ s.phase = .idle) ∧
    (s.isStopped = true ↔ s.resValid = true ∧ s.resDw = 0x0200) ∧
    (s.isPlaying = true ↔ s.resValid = true ∧ s.resDw = 0x0201) ∧
    (s.isPaused = true ↔ s.resValid = true ∧ s.resDw = 0x0202) ∧
    ¬ (s.isStopped = true ∧ s.isPlaying = true) ∧ ¬ (s.isStopped = true ∧ s.isPaused = true) ∧
    ¬ (s.isPlaying = true ∧ s.isPaused = true)

/-! ### What issuing each command does (R130, R131)
Each is an equation: every register, both streams and every other field not written out in the
right-hand side are unchanged. -/

/-- The playback commands without an operand (R170, R171, R173, R174, R175): `arg` is ignored. -/
def Obligations.PlaybackCommandsIssueTheirFrames : Prop :=
  ∀ (arg : Word) (s : State), s.phase = .idle →
    exec (.next arg) s = .next (issued s .next arg 0x01 0) ∧
    exec (.prev arg) s = .next (issued s .prev arg 0x02 0) ∧
    exec (.play arg) s = .next (issued s .play arg 0x0D 0) ∧
    exec (.pause arg) s = .next (issued s .pause arg 0x0E 0) ∧
    exec (.stop arg) s = .next (issued s .stop arg 0x16 0)

/-- The commands that pass their 16 bits through (R172, R176, R177, R212, R260). -/
def Obligations.WordCommandsPassTheirArgument : Prop :=
  ∀ (arg : Word) (s : State), s.phase = .idle →
    exec (.playidx arg) s = .next (issued s .playidx arg 0x03 arg.toNat) ∧
    exec (.playft arg) s = .next (issued s .playft arg 0x0F arg.toNat) ∧
    exec (.playfold arg) s = .next (issued s .playfold arg 0x12 arg.toNat) ∧
    exec (.loopfold arg) s = .next (issued s .loopfold arg 0x17 arg.toNat) ∧
    exec (.qffold arg) s = .next (issued s .qffold arg 0x4E arg.toNat)

/-- The volume commands (R190, R191, R192): the percentage is read as a signed integer. -/
def Obligations.VolumeCommandsIssueTheirFrames : Prop :=
  ∀ (arg : Word) (s : State), s.phase = .idle →
    exec (.volup arg) s = .next (issued s .volup arg 0x04 0) ∧
    exec (.voldn arg) s = .next (issued s .voldn arg 0x05 0) ∧
    exec (.volset arg) s = .next (issued s .volset arg 0x06 (units s.params.roundTie arg.toInt))

/-- The equalizer command (R196): the coerced index is sent and retained, and no other session or
result register changes. -/
def Obligations.EqualizerCommandSendsAndRetains : Prop :=
  ∀ (arg : Word) (s : State), s.phase = .idle →
    ∃ e : Equalizer, equalizerIndex e = coerce arg.toInt ∧
      exec (.eqset arg) s = .next { issued s .eqset arg 0x07 (coerce arg.toInt) with cureq := e }

/-- The play-mode and output commands (R210, R211, R213, R214, R215): on is 1 for `LOOPALL` and 0 for
`LOOPONE` and `DAC`, and only bit 0 of the argument counts. -/
def Obligations.PlayModeCommandsIssueTheirFrames : Prop :=
  ∀ (arg : Word) (s : State), s.phase = .idle →
    exec (.repcur arg) s = .next (issued s .repcur arg 0x08 0) ∧
    exec (.shuffle arg) s = .next (issued s .shuffle arg 0x18 0) ∧
    exec (.loopall arg) s = .next (issued s .loopall arg 0x11 (arg.toNat % 2)) ∧
    exec (.loopone arg) s = .next (issued s .loopone arg 0x19 (1 - arg.toNat % 2)) ∧
    exec (.dac arg) s = .next (issued s .dac arg 0x1A (1 - arg.toNat % 2))

/-- Device selection and the first half of initialization (R230, R238, R130): the device is retained
and its byte sent. Which argument holds which device is the build's code (log 9). -/
def Obligations.DeviceSelectionSendsAndRetains : Prop :=
  ∀ (arg : Word) (d : Device) (s : State), s.phase = .idle → deviceOfArg arg = some d →
    exec (.devsel arg) s = .next
      { issued s .devsel arg 0x09 (deviceByte s.params.deviceCode d).toNat with curdev := d } ∧
    exec (.init arg) s = .next
      { issued s .init arg 0x09 (deviceByte s.params.deviceCode d).toNat with curdev := d }

/-- Low power and chip reset (R232, R234, R236): leaving low power selects the retained device again,
with the frame `DEVSEL` of that device would send, and none of the three writes CURDEV. -/
def Obligations.PowerCommandsIssueTheirFrames : Prop :=
  ∀ (arg : Word) (s : State), s.phase = .idle →
    exec (.lpon arg) s = .next (issued s .lpon arg 0x0A 0) ∧
    exec (.chiprst arg) s = .next (issued s .chiprst arg 0x0C 0) ∧
    exec (.lpoff arg) s = .next
      (issued s .lpoff arg 0x09 (deviceByte s.params.deviceCode s.curdev).toNat)

/-- The queries without an operand (R250, R252, R254, R256, R257, R258): `issue` sends the query and
writes no result register; the drain and the completion do (R145, R148). -/
def Obligations.QueriesIssueTheirFrames : Prop :=
  ∀ (arg : Word) (s : State), s.phase = .idle →
    exec (.qstate arg) s = .next (issued s .qstate arg 0x42 0) ∧
    exec (.qvol arg) s = .next (issued s .qvol arg 0x43 0) ∧
    exec (.qeq arg) s = .next (issued s .qeq arg 0x44 0) ∧
    exec (.qfusb arg) s = .next (issued s .qfusb arg 0x47 0) ∧
    exec (.qfsd arg) s = .next (issued s .qfsd arg 0x48 0) ∧
    exec (.qfflash arg) s = .next (issued s .qfflash arg 0x49 0)

/-- The file count of a named device and of the current one (R262, R264): the query of the storage
device, and for the other two a command complete at once with nothing sent. -/
def Obligations.FileCountDependsOnTheDevice : Prop :=
  ∀ (arg : Word) (d : Device) (s : State), s.phase = .idle →
    (∀ op, (d = .usb ∧ op = 0x47) ∨ (d = .sd ∧ op = 0x48) ∨ (d = .flash ∧ op = 0x49) →
      (deviceOfArg arg = some d → exec (.fcnt arg) s = .next (issued s .fcnt arg op 0)) ∧
      (s.curdev = d → exec (.fcntc arg) s = .next (issued s .fcntc arg op 0))) ∧
    (d = .aux ∨ d = .sleep →
      (deviceOfArg arg = some d → exec (.fcnt arg) s = .next (skipped s .fcnt arg)) ∧
      (s.curdev = d → exec (.fcntc arg) s = .next (skipped s .fcntc arg)))

/-- R105: a device command whose argument holds no device is refused in every state. -/
def Obligations.DeviceCommandsRefuseOtherCodes : Prop :=
  ∀ (arg : Word) (s : State), deviceOfArg arg = none →
    exec (.devsel arg) s = .refused (.notAccepted .unknownDevice) ∧
    exec (.init arg) s = .refused (.notAccepted .unknownDevice) ∧
    exec (.fcnt arg) s = .refused (.notAccepted .unknownDevice)

/-- The dispatch and the opcode table agree (R96, R101, R130): issuing a wire command loads the
latches of exactly the frame that encoding it gives. -/
def Obligations.IssuedFrameIsTheEncodedOne : Prop :=
  ∀ (i : Instr) (s : State) (bs : List Byte), s.phase = .idle → encodeFrame s.params i = some bs →
    ∃ t, exec i s = .next t ∧ encodeTx t.txOp t.txLo t.txHi = bs ∧ t.phase = .tx ∧ t.txIdx = 0 ∧
      t.cmdSel = i.sel ∧ t.cmdArg = i.arg ∧ t.txLog = s.txLog ∧ t.rxFifo = s.rxFifo

/-! ### What the whole machine can and cannot do -/

/-- R150: the phase after any step is the one the table gives, and no other transition exists. With no
request to issue the host has no step, and the phase stays (log 11). -/
def Obligations.PhaseTransitionsAreTheTable : Prop :=
  ∀ s t : State, step s = .next t →
    match s.nextTurn.1, s.phase with
    | .reset, _ => t.phase = .idle
    | .host, .idle =>
      (s.requests = [] ∨ nextRequestSkips s → t.phase = .idle) ∧
      (¬ (s.requests = [] ∨ nextRequestSkips s) → t.phase = .tx)
    | .sequencer, .tx => t.phase = if s.txIdx = 7#3 then .settle else .tx
    | .sequencer, .settle =>
      t.phase =
        if s.settleMs ≠ 0#10 then .settle
        else if s.txOp ∈ querySet then .drain
        else if s.cmdSel = .init ∧ s.mstep = 0#1 then .tx
        else .idle
    | .sequencer, .drain =>
      t.phase =
        if (decodeRx (s.rxFifo.take 10)).isSome then .drain
        else if s.cmdSel = .init ∧ s.lastValid = false then .failed
        else .idle
    | _, p => t.phase = p

/-- R292: in FAILED only `reset` leaves the phase; any other turn, of any agent, changes nothing but
RXFIFO and whose turn comes next (log 12), and no command can be issued. -/
def Obligations.OnlyResetLeavesFailed : Prop :=
  ∀ (s t : State), s.phase = .failed → step s = .next t →
    (s.nextTurn.1 = .reset → t.phase = .idle ∧ t.faultInit = false) ∧
    (s.nextTurn.1 ≠ .reset →
      t = { s with turns := s.takeTurn.turns, turnsAfter := s.takeTurn.turnsAfter
                   rxFifo := t.rxFifo } ∧
      ∀ i u, exec i t ≠ .next u)

/-- R34, R35, R52: CURDEV changes only in the host's turn that issues `DEVSEL` or `INIT`, to the device they
name, and CUREQ only in the one that issues `EQSET`, to the coerced index; else only `reset` writes
them. -/
def Obligations.SessionRegistersChangeOnlyByTheirSetters : Prop :=
  ∀ s t : State, step s = .next t → s.nextTurn.1 ≠ .reset →
    (t.curdev ≠ s.curdev → s.nextTurn.1 = .host ∧ s.phase = .idle ∧ ∃ r rest i, s.requests = r :: rest ∧
      decodeRequest r = .ok i ∧ i.sel ∈ [.devsel, .init] ∧ deviceOfArg i.arg = some t.curdev) ∧
    (t.cureq ≠ s.cureq → s.nextTurn.1 = .host ∧ s.phase = .idle ∧ ∃ r rest i, s.requests = r :: rest ∧
      decodeRequest r = .ok i ∧ i.sel = .eqset ∧ equalizerIndex t.cureq = coerce i.arg.toInt)

/-- R30, R52: the result registers change only when a drain ends, at the attempt that decodes nothing, when
a file count of a device without files is issued, or by `reset`. -/
def Obligations.ResultRegistersChangeOnlyAtCompletion : Prop :=
  ∀ s t : State, step s = .next t → s.nextTurn.1 ≠ .reset →
    ¬ (s.nextTurn.1 = .sequencer ∧ s.phase = .drain ∧ decodeRx (s.rxFifo.take 10) = none) →
    ¬ (s.nextTurn.1 = .host ∧ s.phase = .idle ∧ nextRequestSkips s) →
    t.resValid = s.resValid ∧ t.resOp = s.resOp ∧ t.resDw = s.resDw ∧ t.resVal = s.resVal

/-- R36, R290: FAULT_INIT is set only by the completion action of `INIT` with no answer, together with
FAILED, and cleared only by `reset`. -/
def Obligations.FaultIsRaisedOnlyByInit : Prop :=
  ∀ s t : State, step s = .next t → t.faultInit ≠ s.faultInit →
    (s.nextTurn.1 = .reset ∧ t.faultInit = false) ∨
    (s.nextTurn.1 = .sequencer ∧ s.phase = .drain ∧ s.cmdSel = .init ∧ s.lastValid = false ∧
      decodeRx (s.rxFifo.take 10) = none ∧ t.faultInit = true ∧ t.phase = .failed)

/-- R62, R64, R71, R77: the transmit stream only grows, by one byte of the frame in progress, in TX;
the receive stream loses bytes only to the sequencer in DRAIN, from the front, and gains only what the
peripheral sends, at the back. -/
def Obligations.StreamsAreTouchedOnlyByTheirOwners : Prop :=
  ∀ s t : State, step s = .next t →
    (t.txLog = s.txLog ∨ (s.nextTurn.1 = .sequencer ∧ s.phase = .tx ∧
      ∃ b, (encodeTx s.txOp s.txLo s.txHi)[s.txIdx.toNat]? = some b ∧ t.txLog = s.txLog ++ [b])) ∧
    (t.rxFifo = s.rxFifo ∨
      (s.nextTurn.1 = .sequencer ∧ s.phase = .drain ∧ t.rxFifo = s.rxFifo.drop 10) ∨
      ∃ b, s.nextTurn.1 = .peripheral b ∧ t.rxFifo = s.rxFifo ++ [b])

/-- R8, R20: the parameters are arguments of the step relation, not state: no step writes them
(log 1). -/
def Obligations.ParametersNeverChange : Prop :=
  ∀ s t : State, step s = .next t → t.params = s.params

/-- R133, U10: the machine never faults, and a step is refused only where the host, in IDLE, presents a
request that the port does not accept; in every other state some next state follows. -/
def Obligations.OnlyUnacceptedRequestsAreRefused : Prop :=
  ∀ s : State, (∃ t, step s = .next t) ∨
    (s.nextTurn.1 = .host ∧ s.phase = .idle ∧ ∃ r rest e, s.requests = r :: rest ∧
      decodeRequest r = .error e ∧ step s = .refused (.notAccepted e))

/-- Every step, of any agent, keeps the invariant `State.Inv` of Safety.lean (R24, R25, R28, R31 to
R33, R36, R45, R103, R142, R266, R300). -/
def Obligations.StepKeepsTheInvariant : Prop :=
  ∀ s t : State, s.Inv → step s = .next t → t.Inv

/-- The machine that starts has the invariant, whatever bytes the receive buffer holds. `State.reset` takes
RX_CAPACITY to be unbounded (log 5, the model's choice) and DEVICE_CODE to be the default (log 3). The
second clause is over every value of the parameters: the start state of a build with the parameters `p`
has the invariant whenever the bytes in its buffer fit. -/
def Obligations.StartStateHasTheInvariant : Prop :=
  State.reset.Inv ∧
  ∀ (p : Params) (rx : List Byte), (∀ c, p.rxCapacity = some c → rx.length ≤ c) →
    ({ State.reset with
      params := p, curdev := p.initDevice, cureq := p.initEq, rxFifo := rx } : State).Inv

/-- R51: the registers whose reset value is unspecified cannot be seen: two states that differ only
there make the same moves, and stay so related; the host reads the same in both. -/
def Obligations.UnspecifiedRegistersAreNeverSeen : Prop :=
  ∀ s t : State, AgreeWhereRead s t →
    t.statusPort = s.statusPort ∧
    ((∃ s' t', step s = .next s' ∧ step t = .next t' ∧ AgreeWhereRead s' t') ∨
     (∃ r, step s = .refused r ∧ step t = .refused r))

/-! ### Whole commands -/

/-- R144, R147: from the entry of a drain, with the sequencer left to run and nothing arriving, all frames
that decode are consumed in order, the answer is the last of them, the chunk that ends the drain is
discarded and what lies behind it stays. The order of turns is the model's default (log 12). -/
def Obligations.DrainAnswersWithTheLastFrame : Prop :=
  ∀ (s : State) (frames : List (List Byte)) (tail : List Byte),
    s.phase = .drain → s.turns = [] → s.turnsAfter = .due → s.lastValid = false →
    s.cmdSel ∈ querySels →
    (∀ f ∈ frames, (decodeRx f).isSome = true) → s.rxFifo = frames.flatten ++ tail →
    decodeRx (tail.take 10) = none →
    ∃ t, run (frames.length + 1) s = .next t ∧ t.rxFifo = tail.drop 10 ∧
      t.txLog = s.txLog ∧ t.curdev = s.curdev ∧ t.cureq = s.cureq ∧
      match frames.getLast?.bind decodeRx with
      | some (op, dw) => t.phase = .idle ∧ t.resValid = true ∧ t.resOp = op ∧ t.resDw = dw ∧
          t.resVal = answerValue s.cmdSel dw
      | none => t.phase = (if s.cmdSel = .init then .failed else .idle) ∧ t.resValid = false ∧
          t.resOp = 0 ∧ t.resDw = 0 ∧ t.resVal = 0

/-- R134, R141, R346: a command that does not drain, once issued and left to run, is complete after its
eight bytes, `delay(op)` ticks and one `settled`, with exactly its frame appended to TXLOG. The order
of turns is the model's default (log 12). -/
def Obligations.CommandLeftToRunCompletes : Prop :=
  ∀ s : State, s.phase = .tx → s.txIdx = 0#3 → s.turns = [] → s.turnsAfter = .due →
    s.txOp ∉ querySet → s.cmdSel ≠ .init →
    run (8 + (settleDelay s.txOp).toNat + 1) s = .next
      { s with txLog := s.txLog ++ [0x7E, 0xFF, 0x06, s.txOp, 0x00, s.txLo, s.txHi, 0xEF]
               settleMs := 0, phase := .idle }

/-- R151, R74, R139: whatever turns the agents take in whatever order, short of a reset, when the block
is next IDLE after a command that does not drain, TXLOG has gained exactly its frame, at least
`delay(op)` milliseconds have passed since the frame's eighth byte, RXFIFO has only gained what
arrived, and no result register has changed. -/
def Obligations.WireCommandUnderAnyInterleaving : Prop :=
  ∀ (i : Instr) (s u v : State) (as : List Agent),
    exec i s = .next u → u.phase = .tx → u.txOp ∉ querySet → i.sel ≠ .init →
    s.requests = [] → Agent.reset ∉ as →
    run as.length { u with turns := as } = .next v → v.phase = .idle →
    v.txLog = s.txLog ++ encodeTx u.txOp u.txLo u.txHi ∧
    waitsAfter u as (s.txLog ++ encodeTx u.txOp u.txLo u.txHi) u.txOp ∧
    (s.params.rxCapacity = none → v.rxFifo = s.rxFifo ++ arrivals as) ∧
    v.resValid = s.resValid ∧ v.resOp = s.resOp ∧ v.resDw = s.resDw ∧ v.resVal = s.resVal ∧
    v.curdev = u.curdev ∧ v.cureq = u.cureq ∧ v.faultInit = s.faultInit

/-- R151, R148, R269: the same for a query. The bytes the drain consumed are all from the front of
what was there and what arrived. The command gets no answer exactly when the drain's first attempt, on
what was there and what had arrived by then, decodes nothing, and that is reported as zeros; an answer
is an aligned chunk of what was there and what arrived, whichever command caused it. -/
def Obligations.QueryUnderAnyInterleaving : Prop :=
  ∀ (i : Instr) (s u v : State) (as : List Agent),
    exec i s = .next u → u.phase = .tx → u.txOp ∈ querySet →
    s.requests = [] → s.params.rxCapacity = none → Agent.reset ∉ as →
    run as.length { u with turns := as } = .next v → v.phase = .idle →
    v.txLog = s.txLog ++ encodeTx u.txOp u.txLo u.txHi ∧
    waitsAfter u as (s.txLog ++ encodeTx u.txOp u.txLo u.txHi) u.txOp ∧
    v.curdev = s.curdev ∧ v.cureq = s.cureq ∧ v.faultInit = s.faultInit ∧
    (∃ k, v.rxFifo = (s.rxFifo ++ arrivals as).drop k) ∧
    (∃ before w, firstAttempt u as before w ∧ w.rxFifo = s.rxFifo ++ arrivals before ∧
      (v.resValid = false ↔ decodeRx (w.rxFifo.take 10) = none)) ∧
    (v.resValid = true →
      (∃ n, decodeRx (((s.rxFifo ++ arrivals as).drop (10 * n)).take 10) = some (v.resOp, v.resDw)) ∧
      v.resVal = answerValue i.sel v.resDw) ∧
    (v.resValid = false → v.resOp = 0 ∧ v.resDw = 0 ∧ v.resVal = 0)

/-- R238, R290, R139: the same for `INIT`, which ends in IDLE or in FAILED: both its frames are sent, each
is followed by its settle delay, the device is retained, and it has failed exactly when the drain's
first attempt, on what was there and what had arrived by then, decodes nothing. -/
def Obligations.InitUnderAnyInterleaving : Prop :=
  ∀ (arg : Word) (d : Device) (s u v : State) (as : List Agent),
    s.faultInit = false → deviceOfArg arg = some d → exec (.init arg) s = .next u →
    s.requests = [] → Agent.reset ∉ as →
    run as.length { u with turns := as } = .next v →
    v.phase = .idle ∨ v.phase = .failed →
    v.txLog = s.txLog ++ encodeTx 0x09 (deviceByte s.params.deviceCode d) 0 ++ encodeTx 0x42 0 0 ∧
    waitsAfter u as (s.txLog ++ encodeTx 0x09 (deviceByte s.params.deviceCode d) 0) 0x09 ∧
    waitsAfter u as
      (s.txLog ++ encodeTx 0x09 (deviceByte s.params.deviceCode d) 0 ++ encodeTx 0x42 0 0) 0x42 ∧
    v.curdev = d ∧ v.cureq = s.cureq ∧
    (∃ before w, firstAttempt u as before w ∧
      (s.params.rxCapacity = none → w.rxFifo = s.rxFifo ++ arrivals before) ∧
      (v.phase = .failed ↔ decodeRx (w.rxFifo.take 10) = none)) ∧
    (v.faultInit = true ↔ v.phase = .failed) ∧ (v.resValid = false ↔ v.phase = .failed) ∧
    (v.resValid = true → v.resVal = answerValue .init v.resDw ∧
      (s.params.rxCapacity = none → ∃ n,
        decodeRx (((s.rxFifo ++ arrivals as).drop (10 * n)).take 10) = some (v.resOp, v.resDw))) ∧
    (v.resValid = false → v.resOp = 0 ∧ v.resDw = 0 ∧ v.resVal = 0)

/-- R238, R290, program P5: `INIT` with nothing received and nothing arriving, left to run, fails
after its two frames and its two delays. The order of turns is the model's default (log 12). -/
def Obligations.InitFailsOnSilence : Prop :=
  ∀ (arg : Word) (d : Device) (s : State),
    s.phase = .idle → s.turns = [] → s.turnsAfter = .due → s.rxFifo = [] →
    deviceOfArg arg = some d →
    ∃ u v, exec (.init arg) s = .next u ∧ run 419 u = .next v ∧
      v.phase = .failed ∧ v.faultInit = true ∧ v.mstep = 0 ∧ v.resValid = false ∧ v.resOp = 0 ∧
      v.resDw = 0 ∧ v.resVal = 0 ∧ v.curdev = d ∧ v.cureq = s.cureq ∧ v.rxFifo = [] ∧
      v.txLog = s.txLog ++
        [0x7E, 0xFF, 0x06, 0x09, 0x00, deviceByte s.params.deviceCode d, 0x00, 0xEF,
         0x7E, 0xFF, 0x06, 0x42, 0x00, 0x00, 0x00, 0xEF]

/-- R238, R344: any frame that decodes averts the failure, a stale one too. The order of turns is the
model's default (log 12). -/
def Obligations.InitIsSatisfiedByAnyFrame : Prop :=
  ∀ (arg : Word) (d : Device) (s : State) (op : Byte) (dw : Word),
    s.phase = .idle → s.turns = [] → s.turnsAfter = .due → s.faultInit = false →
    deviceOfArg arg = some d →
    decodeRx s.rxFifo = some (op, dw) →
    ∃ u v, exec (.init arg) s = .next u ∧ run 420 u = .next v ∧
      v.phase = .idle ∧ v.faultInit = false ∧ v.mstep = 0 ∧ v.resValid = true ∧ v.resOp = op ∧
      v.resDw = dw ∧ v.resVal = dw.setWidth 32 ∧ v.curdev = d ∧ v.rxFifo = [] ∧
      v.txLog = s.txLog ++
        [0x7E, 0xFF, 0x06, 0x09, 0x00, deviceByte s.params.deviceCode d, 0x00, 0xEF,
         0x7E, 0xFF, 0x06, 0x42, 0x00, 0x00, 0x00, 0xEF]

/-- R146, R338, U12: a peripheral that keeps sending aligned frames keeps the block in DRAIN for as long as
it does. For `n` frames that is a finite run; for frames without end it is an infinite one, which the
model admits: no number of steps ends that drain. So it is false that every drain ends. How a state
names an order of turns without end is the model's (logs 12, 17). -/
def Obligations.DrainLastsWhileFramesArrive : Prop :=
  (∀ (s : State) (f : List Byte) (n : Nat),
    s.phase = .drain → s.rxFifo = [] → s.params.rxCapacity = none → (decodeRx f).isSome = true →
    s.turns = (List.replicate n (f.map Agent.peripheral ++ [Agent.sequencer])).flatten →
    ∃ t, run s.turns.length s = .next t ∧ t.phase = .drain ∧ t.rxFifo = [] ∧ t.turns = []) ∧
  (∀ (s : State) (f : List Byte) (first : Agent) (rest : List Agent),
    s.phase = .drain → s.rxFifo = [] → s.params.rxCapacity = none → (decodeRx f).isSome = true →
    s.turns = [] → s.turnsAfter = .cycle first rest →
    first :: rest = f.map Agent.peripheral ++ [Agent.sequencer] →
    ∀ k, ∃ t, run k s = .next t ∧ t.phase = .drain) ∧
  ¬ ∀ s : State, s.phase = .drain → ∃ k t, run k s = .next t ∧ t.phase ≠ .drain

/-- R146, R338: the premise under which a drain does end, that only finitely many bytes arrive while it
lasts. Whatever turns the agents take in whatever order, once the sequencer has had one turn more than
there are ten-byte chunks in what was there and what arrived, the block has left DRAIN. -/
def Obligations.DrainEndsOnceArrivalsAreOutrun : Prop :=
  ∀ (s : State) (as : List Agent), s.phase = .drain →
    (s.rxFifo.length + (arrivals as).length) / 10 < as.count .sequencer →
    ∃ k t, k ≤ as.length ∧ run k { s with turns := as } = .next t ∧ t.phase ≠ .drain
end

