-- ==== Sys2Proof/Laws/Codec.lean ====
section
/-! SUPPORT. The small lemmas of the frame codec and of the device maps. -/

namespace Sys2Proof.Machine

@[simp] theorem length_encodeTx (op lo hi : Byte) : (encodeTx op lo hi).length = 8 := rfl

@[simp] theorem length_txFrame (op : Byte) (w : Word) : (txFrame op w).length = 8 := rfl

theorem loByte_eq_mod (w : Word) : loByte w = BitVec.ofNat 8 (w.toNat % 256) := by
  apply BitVec.eq_of_toNat_eq; simp [loByte]

theorem hiByte_eq_div (w : Word) : hiByte w = BitVec.ofNat 8 (w.toNat / 256) := by
  apply BitVec.eq_of_toNat_eq; simp [hiByte, Nat.shiftRight_eq_div_pow]

/-- A word from its two bytes, as a number. -/
theorem toNat_append_bytes (hi lo : Byte) :
    (hi ++ lo : Word).toNat = hi.toNat * 256 + lo.toNat := by
  rw [BitVec.toNat_append, ← Nat.shiftLeft_add_eq_or_of_lt lo.isLt, Nat.shiftLeft_eq]

/-- The two bytes of a word make the word again. -/
@[simp] theorem hiByte_append_loByte (w : Word) : (hiByte w ++ loByte w : Word) = w := by
  apply BitVec.eq_of_toNat_eq
  have := w.isLt
  rw [toNat_append_bytes, loByte_eq_mod, hiByte_eq_div]
  simp
  omega

@[simp] theorem loByte_append (hi lo : Byte) : loByte (hi ++ lo : Word) = lo := by
  apply BitVec.eq_of_toNat_eq
  have := lo.isLt
  rw [loByte_eq_mod, toNat_append_bytes]
  simp
  omega

@[simp] theorem hiByte_append (hi lo : Byte) : hiByte (hi ++ lo : Word) = hi := by
  apply BitVec.eq_of_toNat_eq
  have := lo.isLt
  have := hi.isLt
  rw [hiByte_eq_div, toNat_append_bytes]
  simp
  omega

/-- Only ten-byte buffers decode. -/
theorem decodeRx_length {buf : List Byte} {r : Byte × Word} (h : decodeRx buf = some r) :
    buf.length = 10 := by
  unfold decodeRx at h
  split at h
  · rfl
  · cases h

@[simp] theorem decodeRx_nil : decodeRx [] = none := rfl

@[simp] theorem deviceOfArg_argOfDevice (d : Device) : deviceOfArg (argOfDevice d) = some d := by
  cases d <;> rfl

/-- The device found for a byte has that byte. -/
theorem deviceByte_of_deviceOfByte {dc : DeviceCode} {b : Byte} {d : Device}
    (h : deviceOfByte dc b = some d) : deviceByte dc d = b := by
  have := List.find?_some h
  simpa using this

end Sys2Proof.Machine
end

