-- ==== Sys2Proof/Laws/State.lean ====
section
/-! SUPPORT. One lemma per field per named update of State, so that no later proof unfolds a record
update. -/

namespace Sys2Proof.Machine

variable (s : State)

@[simp] theorem State.txWrite_phase (b : Byte) : (s.txWrite b).phase = s.phase := rfl
@[simp] theorem State.txWrite_txIdx (b : Byte) : (s.txWrite b).txIdx = s.txIdx := rfl
@[simp] theorem State.txWrite_mstep (b : Byte) : (s.txWrite b).mstep = s.mstep := rfl
@[simp] theorem State.txWrite_cmdSel (b : Byte) : (s.txWrite b).cmdSel = s.cmdSel := rfl
@[simp] theorem State.txWrite_cmdArg (b : Byte) : (s.txWrite b).cmdArg = s.cmdArg := rfl
@[simp] theorem State.txWrite_txOp (b : Byte) : (s.txWrite b).txOp = s.txOp := rfl
@[simp] theorem State.txWrite_txLo (b : Byte) : (s.txWrite b).txLo = s.txLo := rfl
@[simp] theorem State.txWrite_txHi (b : Byte) : (s.txWrite b).txHi = s.txHi := rfl
@[simp] theorem State.txWrite_settleMs (b : Byte) : (s.txWrite b).settleMs = s.settleMs := rfl
@[simp] theorem State.txWrite_lastValid (b : Byte) : (s.txWrite b).lastValid = s.lastValid := rfl
@[simp] theorem State.txWrite_lastOp (b : Byte) : (s.txWrite b).lastOp = s.lastOp := rfl
@[simp] theorem State.txWrite_lastDw (b : Byte) : (s.txWrite b).lastDw = s.lastDw := rfl
@[simp] theorem State.txWrite_resValid (b : Byte) : (s.txWrite b).resValid = s.resValid := rfl
@[simp] theorem State.txWrite_resOp (b : Byte) : (s.txWrite b).resOp = s.resOp := rfl
@[simp] theorem State.txWrite_resDw (b : Byte) : (s.txWrite b).resDw = s.resDw := rfl
@[simp] theorem State.txWrite_resVal (b : Byte) : (s.txWrite b).resVal = s.resVal := rfl
@[simp] theorem State.txWrite_curdev (b : Byte) : (s.txWrite b).curdev = s.curdev := rfl
@[simp] theorem State.txWrite_cureq (b : Byte) : (s.txWrite b).cureq = s.cureq := rfl
@[simp] theorem State.txWrite_faultInit (b : Byte) : (s.txWrite b).faultInit = s.faultInit := rfl
@[simp] theorem State.txWrite_rxFifo (b : Byte) : (s.txWrite b).rxFifo = s.rxFifo := rfl
@[simp] theorem State.txWrite_txLog (b : Byte) : (s.txWrite b).txLog = s.txLog ++ [b] := rfl
@[simp] theorem State.txWrite_params (b : Byte) : (s.txWrite b).params = s.params := rfl
@[simp] theorem State.txWrite_requests (b : Byte) : (s.txWrite b).requests = s.requests := rfl
@[simp] theorem State.txWrite_turns (b : Byte) : (s.txWrite b).turns = s.turns := rfl
@[simp] theorem State.txWrite_turnsAfter (b : Byte) : (s.txWrite b).turnsAfter = s.turnsAfter := rfl
@[simp] theorem State.txWrite_resets (b : Byte) : (s.txWrite b).resets = s.resets := rfl

@[simp] theorem State.rxDrop_phase (n : Nat) : (s.rxDrop n).phase = s.phase := rfl
@[simp] theorem State.rxDrop_txIdx (n : Nat) : (s.rxDrop n).txIdx = s.txIdx := rfl
@[simp] theorem State.rxDrop_mstep (n : Nat) : (s.rxDrop n).mstep = s.mstep := rfl
@[simp] theorem State.rxDrop_cmdSel (n : Nat) : (s.rxDrop n).cmdSel = s.cmdSel := rfl
@[simp] theorem State.rxDrop_cmdArg (n : Nat) : (s.rxDrop n).cmdArg = s.cmdArg := rfl
@[simp] theorem State.rxDrop_txOp (n : Nat) : (s.rxDrop n).txOp = s.txOp := rfl
@[simp] theorem State.rxDrop_txLo (n : Nat) : (s.rxDrop n).txLo = s.txLo := rfl
@[simp] theorem State.rxDrop_txHi (n : Nat) : (s.rxDrop n).txHi = s.txHi := rfl
@[simp] theorem State.rxDrop_settleMs (n : Nat) : (s.rxDrop n).settleMs = s.settleMs := rfl
@[simp] theorem State.rxDrop_lastValid (n : Nat) : (s.rxDrop n).lastValid = s.lastValid := rfl
@[simp] theorem State.rxDrop_lastOp (n : Nat) : (s.rxDrop n).lastOp = s.lastOp := rfl
@[simp] theorem State.rxDrop_lastDw (n : Nat) : (s.rxDrop n).lastDw = s.lastDw := rfl
@[simp] theorem State.rxDrop_resValid (n : Nat) : (s.rxDrop n).resValid = s.resValid := rfl
@[simp] theorem State.rxDrop_resOp (n : Nat) : (s.rxDrop n).resOp = s.resOp := rfl
@[simp] theorem State.rxDrop_resDw (n : Nat) : (s.rxDrop n).resDw = s.resDw := rfl
@[simp] theorem State.rxDrop_resVal (n : Nat) : (s.rxDrop n).resVal = s.resVal := rfl
@[simp] theorem State.rxDrop_curdev (n : Nat) : (s.rxDrop n).curdev = s.curdev := rfl
@[simp] theorem State.rxDrop_cureq (n : Nat) : (s.rxDrop n).cureq = s.cureq := rfl
@[simp] theorem State.rxDrop_faultInit (n : Nat) : (s.rxDrop n).faultInit = s.faultInit := rfl
@[simp] theorem State.rxDrop_rxFifo (n : Nat) : (s.rxDrop n).rxFifo = s.rxFifo.drop n := rfl
@[simp] theorem State.rxDrop_txLog (n : Nat) : (s.rxDrop n).txLog = s.txLog := rfl
@[simp] theorem State.rxDrop_params (n : Nat) : (s.rxDrop n).params = s.params := rfl
@[simp] theorem State.rxDrop_requests (n : Nat) : (s.rxDrop n).requests = s.requests := rfl
@[simp] theorem State.rxDrop_turns (n : Nat) : (s.rxDrop n).turns = s.turns := rfl
@[simp] theorem State.rxDrop_turnsAfter (n : Nat) : (s.rxDrop n).turnsAfter = s.turnsAfter := rfl
@[simp] theorem State.rxDrop_resets (n : Nat) : (s.rxDrop n).resets = s.resets := rfl

@[simp] theorem State.latchCommand_phase (x : Sel) (a : Word) :
    (s.latchCommand x a).phase = s.phase := rfl
@[simp] theorem State.latchCommand_txIdx (x : Sel) (a : Word) :
    (s.latchCommand x a).txIdx = s.txIdx := rfl
@[simp] theorem State.latchCommand_mstep (x : Sel) (a : Word) :
    (s.latchCommand x a).mstep = 0#1 := rfl
@[simp] theorem State.latchCommand_cmdSel (x : Sel) (a : Word) :
    (s.latchCommand x a).cmdSel = x := rfl
@[simp] theorem State.latchCommand_cmdArg (x : Sel) (a : Word) :
    (s.latchCommand x a).cmdArg = a := rfl
@[simp] theorem State.latchCommand_txOp (x : Sel) (a : Word) :
    (s.latchCommand x a).txOp = s.txOp := rfl
@[simp] theorem State.latchCommand_txLo (x : Sel) (a : Word) :
    (s.latchCommand x a).txLo = s.txLo := rfl
@[simp] theorem State.latchCommand_txHi (x : Sel) (a : Word) :
    (s.latchCommand x a).txHi = s.txHi := rfl
@[simp] theorem State.latchCommand_settleMs (x : Sel) (a : Word) :
    (s.latchCommand x a).settleMs = s.settleMs := rfl
@[simp] theorem State.latchCommand_lastValid (x : Sel) (a : Word) :
    (s.latchCommand x a).lastValid = s.lastValid := rfl
@[simp] theorem State.latchCommand_lastOp (x : Sel) (a : Word) :
    (s.latchCommand x a).lastOp = s.lastOp := rfl
@[simp] theorem State.latchCommand_lastDw (x : Sel) (a : Word) :
    (s.latchCommand x a).lastDw = s.lastDw := rfl
@[simp] theorem State.latchCommand_resValid (x : Sel) (a : Word) :
    (s.latchCommand x a).resValid = s.resValid := rfl
@[simp] theorem State.latchCommand_resOp (x : Sel) (a : Word) :
    (s.latchCommand x a).resOp = s.resOp := rfl
@[simp] theorem State.latchCommand_resDw (x : Sel) (a : Word) :
    (s.latchCommand x a).resDw = s.resDw := rfl
@[simp] theorem State.latchCommand_resVal (x : Sel) (a : Word) :
    (s.latchCommand x a).resVal = s.resVal := rfl
@[simp] theorem State.latchCommand_curdev (x : Sel) (a : Word) :
    (s.latchCommand x a).curdev = s.curdev := rfl
@[simp] theorem State.latchCommand_cureq (x : Sel) (a : Word) :
    (s.latchCommand x a).cureq = s.cureq := rfl
@[simp] theorem State.latchCommand_faultInit (x : Sel) (a : Word) :
    (s.latchCommand x a).faultInit = s.faultInit := rfl
@[simp] theorem State.latchCommand_rxFifo (x : Sel) (a : Word) :
    (s.latchCommand x a).rxFifo = s.rxFifo := rfl
@[simp] theorem State.latchCommand_txLog (x : Sel) (a : Word) :
    (s.latchCommand x a).txLog = s.txLog := rfl
@[simp] theorem State.latchCommand_params (x : Sel) (a : Word) :
    (s.latchCommand x a).params = s.params := rfl
@[simp] theorem State.latchCommand_requests (x : Sel) (a : Word) :
    (s.latchCommand x a).requests = s.requests := rfl
@[simp] theorem State.latchCommand_turns (x : Sel) (a : Word) :
    (s.latchCommand x a).turns = s.turns := rfl
@[simp] theorem State.latchCommand_turnsAfter (x : Sel) (a : Word) :
    (s.latchCommand x a).turnsAfter = s.turnsAfter := rfl
@[simp] theorem State.latchCommand_resets (x : Sel) (a : Word) :
    (s.latchCommand x a).resets = s.resets := rfl

@[simp] theorem State.loadFrame_phase (op : Byte) (w : Word) : (s.loadFrame op w).phase = .tx := rfl
@[simp] theorem State.loadFrame_txIdx (op : Byte) (w : Word) : (s.loadFrame op w).txIdx = 0#3 := rfl
@[simp] theorem State.loadFrame_mstep (op : Byte) (w : Word) :
    (s.loadFrame op w).mstep = s.mstep := rfl
@[simp] theorem State.loadFrame_cmdSel (op : Byte) (w : Word) :
    (s.loadFrame op w).cmdSel = s.cmdSel := rfl
@[simp] theorem State.loadFrame_cmdArg (op : Byte) (w : Word) :
    (s.loadFrame op w).cmdArg = s.cmdArg := rfl
@[simp] theorem State.loadFrame_txOp (op : Byte) (w : Word) : (s.loadFrame op w).txOp = op := rfl
@[simp] theorem State.loadFrame_txLo (op : Byte) (w : Word) :
    (s.loadFrame op w).txLo = loByte w := rfl
@[simp] theorem State.loadFrame_txHi (op : Byte) (w : Word) :
    (s.loadFrame op w).txHi = hiByte w := rfl
@[simp] theorem State.loadFrame_settleMs (op : Byte) (w : Word) :
    (s.loadFrame op w).settleMs = s.settleMs := rfl
@[simp] theorem State.loadFrame_lastValid (op : Byte) (w : Word) :
    (s.loadFrame op w).lastValid = s.lastValid := rfl
@[simp] theorem State.loadFrame_lastOp (op : Byte) (w : Word) :
    (s.loadFrame op w).lastOp = s.lastOp := rfl
@[simp] theorem State.loadFrame_lastDw (op : Byte) (w : Word) :
    (s.loadFrame op w).lastDw = s.lastDw := rfl
@[simp] theorem State.loadFrame_resValid (op : Byte) (w : Word) :
    (s.loadFrame op w).resValid = s.resValid := rfl
@[simp] theorem State.loadFrame_resOp (op : Byte) (w : Word) :
    (s.loadFrame op w).resOp = s.resOp := rfl
@[simp] theorem State.loadFrame_resDw (op : Byte) (w : Word) :
    (s.loadFrame op w).resDw = s.resDw := rfl
@[simp] theorem State.loadFrame_resVal (op : Byte) (w : Word) :
    (s.loadFrame op w).resVal = s.resVal := rfl
@[simp] theorem State.loadFrame_curdev (op : Byte) (w : Word) :
    (s.loadFrame op w).curdev = s.curdev := rfl
@[simp] theorem State.loadFrame_cureq (op : Byte) (w : Word) :
    (s.loadFrame op w).cureq = s.cureq := rfl
@[simp] theorem State.loadFrame_faultInit (op : Byte) (w : Word) :
    (s.loadFrame op w).faultInit = s.faultInit := rfl
@[simp] theorem State.loadFrame_rxFifo (op : Byte) (w : Word) :
    (s.loadFrame op w).rxFifo = s.rxFifo := rfl
@[simp] theorem State.loadFrame_txLog (op : Byte) (w : Word) :
    (s.loadFrame op w).txLog = s.txLog := rfl
@[simp] theorem State.loadFrame_params (op : Byte) (w : Word) :
    (s.loadFrame op w).params = s.params := rfl
@[simp] theorem State.loadFrame_requests (op : Byte) (w : Word) :
    (s.loadFrame op w).requests = s.requests := rfl
@[simp] theorem State.loadFrame_turns (op : Byte) (w : Word) :
    (s.loadFrame op w).turns = s.turns := rfl
@[simp] theorem State.loadFrame_turnsAfter (op : Byte) (w : Word) :
    (s.loadFrame op w).turnsAfter = s.turnsAfter := rfl
@[simp] theorem State.loadFrame_resets (op : Byte) (w : Word) :
    (s.loadFrame op w).resets = s.resets := rfl

@[simp] theorem State.writeResult_phase (v : Bool) (op : Byte) (dw : Word) (x : BitVec 32) :
    (s.writeResult v op dw x).phase = s.phase := rfl
@[simp] theorem State.writeResult_txIdx (v : Bool) (op : Byte) (dw : Word) (x : BitVec 32) :
    (s.writeResult v op dw x).txIdx = s.txIdx := rfl
@[simp] theorem State.writeResult_mstep (v : Bool) (op : Byte) (dw : Word) (x : BitVec 32) :
    (s.writeResult v op dw x).mstep = s.mstep := rfl
@[simp] theorem State.writeResult_cmdSel (v : Bool) (op : Byte) (dw : Word) (x : BitVec 32) :
    (s.writeResult v op dw x).cmdSel = s.cmdSel := rfl
@[simp] theorem State.writeResult_cmdArg (v : Bool) (op : Byte) (dw : Word) (x : BitVec 32) :
    (s.writeResult v op dw x).cmdArg = s.cmdArg := rfl
@[simp] theorem State.writeResult_txOp (v : Bool) (op : Byte) (dw : Word) (x : BitVec 32) :
    (s.writeResult v op dw x).txOp = s.txOp := rfl
@[simp] theorem State.writeResult_txLo (v : Bool) (op : Byte) (dw : Word) (x : BitVec 32) :
    (s.writeResult v op dw x).txLo = s.txLo := rfl
@[simp] theorem State.writeResult_txHi (v : Bool) (op : Byte) (dw : Word) (x : BitVec 32) :
    (s.writeResult v op dw x).txHi = s.txHi := rfl
@[simp] theorem State.writeResult_settleMs (v : Bool) (op : Byte) (dw : Word) (x : BitVec 32) :
    (s.writeResult v op dw x).settleMs = s.settleMs := rfl
@[simp] theorem State.writeResult_lastValid (v : Bool) (op : Byte) (dw : Word) (x : BitVec 32) :
    (s.writeResult v op dw x).lastValid = s.lastValid := rfl
@[simp] theorem State.writeResult_lastOp (v : Bool) (op : Byte) (dw : Word) (x : BitVec 32) :
    (s.writeResult v op dw x).lastOp = s.lastOp := rfl
@[simp] theorem State.writeResult_lastDw (v : Bool) (op : Byte) (dw : Word) (x : BitVec 32) :
    (s.writeResult v op dw x).lastDw = s.lastDw := rfl
@[simp] theorem State.writeResult_resValid (v : Bool) (op : Byte) (dw : Word) (x : BitVec 32) :
    (s.writeResult v op dw x).resValid = v := rfl
@[simp] theorem State.writeResult_resOp (v : Bool) (op : Byte) (dw : Word) (x : BitVec 32) :
    (s.writeResult v op dw x).resOp = op := rfl
@[simp] theorem State.writeResult_resDw (v : Bool) (op : Byte) (dw : Word) (x : BitVec 32) :
    (s.writeResult v op dw x).resDw = dw := rfl
@[simp] theorem State.writeResult_resVal (v : Bool) (op : Byte) (dw : Word) (x : BitVec 32) :
    (s.writeResult v op dw x).resVal = x := rfl
@[simp] theorem State.writeResult_curdev (v : Bool) (op : Byte) (dw : Word) (x : BitVec 32) :
    (s.writeResult v op dw x).curdev = s.curdev := rfl
@[simp] theorem State.writeResult_cureq (v : Bool) (op : Byte) (dw : Word) (x : BitVec 32) :
    (s.writeResult v op dw x).cureq = s.cureq := rfl
@[simp] theorem State.writeResult_faultInit (v : Bool) (op : Byte) (dw : Word) (x : BitVec 32) :
    (s.writeResult v op dw x).faultInit = s.faultInit := rfl
@[simp] theorem State.writeResult_rxFifo (v : Bool) (op : Byte) (dw : Word) (x : BitVec 32) :
    (s.writeResult v op dw x).rxFifo = s.rxFifo := rfl
@[simp] theorem State.writeResult_txLog (v : Bool) (op : Byte) (dw : Word) (x : BitVec 32) :
    (s.writeResult v op dw x).txLog = s.txLog := rfl
@[simp] theorem State.writeResult_params (v : Bool) (op : Byte) (dw : Word) (x : BitVec 32) :
    (s.writeResult v op dw x).params = s.params := rfl
@[simp] theorem State.writeResult_requests (v : Bool) (op : Byte) (dw : Word) (x : BitVec 32) :
    (s.writeResult v op dw x).requests = s.requests := rfl
@[simp] theorem State.writeResult_turns (v : Bool) (op : Byte) (dw : Word) (x : BitVec 32) :
    (s.writeResult v op dw x).turns = s.turns := rfl
@[simp] theorem State.writeResult_turnsAfter (v : Bool) (op : Byte) (dw : Word) (x : BitVec 32) :
    (s.writeResult v op dw x).turnsAfter = s.turnsAfter := rfl
@[simp] theorem State.writeResult_resets (v : Bool) (op : Byte) (dw : Word) (x : BitVec 32) :
    (s.writeResult v op dw x).resets = s.resets := rfl

@[simp] theorem State.clearResult_phase : (s.clearResult).phase = s.phase := rfl
@[simp] theorem State.clearResult_txIdx : (s.clearResult).txIdx = s.txIdx := rfl
@[simp] theorem State.clearResult_mstep : (s.clearResult).mstep = s.mstep := rfl
@[simp] theorem State.clearResult_cmdSel : (s.clearResult).cmdSel = s.cmdSel := rfl
@[simp] theorem State.clearResult_cmdArg : (s.clearResult).cmdArg = s.cmdArg := rfl
@[simp] theorem State.clearResult_txOp : (s.clearResult).txOp = s.txOp := rfl
@[simp] theorem State.clearResult_txLo : (s.clearResult).txLo = s.txLo := rfl
@[simp] theorem State.clearResult_txHi : (s.clearResult).txHi = s.txHi := rfl
@[simp] theorem State.clearResult_settleMs : (s.clearResult).settleMs = s.settleMs := rfl
@[simp] theorem State.clearResult_lastValid : (s.clearResult).lastValid = s.lastValid := rfl
@[simp] theorem State.clearResult_lastOp : (s.clearResult).lastOp = s.lastOp := rfl
@[simp] theorem State.clearResult_lastDw : (s.clearResult).lastDw = s.lastDw := rfl
@[simp] theorem State.clearResult_resValid : (s.clearResult).resValid = false := rfl
@[simp] theorem State.clearResult_resOp : (s.clearResult).resOp = 0#8 := rfl
@[simp] theorem State.clearResult_resDw : (s.clearResult).resDw = 0#16 := rfl
@[simp] theorem State.clearResult_resVal : (s.clearResult).resVal = 0#32 := rfl
@[simp] theorem State.clearResult_curdev : (s.clearResult).curdev = s.curdev := rfl
@[simp] theorem State.clearResult_cureq : (s.clearResult).cureq = s.cureq := rfl
@[simp] theorem State.clearResult_faultInit : (s.clearResult).faultInit = s.faultInit := rfl
@[simp] theorem State.clearResult_rxFifo : (s.clearResult).rxFifo = s.rxFifo := rfl
@[simp] theorem State.clearResult_txLog : (s.clearResult).txLog = s.txLog := rfl
@[simp] theorem State.clearResult_params : (s.clearResult).params = s.params := rfl
@[simp] theorem State.clearResult_requests : (s.clearResult).requests = s.requests := rfl
@[simp] theorem State.clearResult_turns : (s.clearResult).turns = s.turns := rfl
@[simp] theorem State.clearResult_turnsAfter : (s.clearResult).turnsAfter = s.turnsAfter := rfl
@[simp] theorem State.clearResult_resets : (s.clearResult).resets = s.resets := rfl

@[simp] theorem State.setDevice_phase (d : Device) : (s.setDevice d).phase = s.phase := rfl
@[simp] theorem State.setDevice_txIdx (d : Device) : (s.setDevice d).txIdx = s.txIdx := rfl
@[simp] theorem State.setDevice_mstep (d : Device) : (s.setDevice d).mstep = s.mstep := rfl
@[simp] theorem State.setDevice_cmdSel (d : Device) : (s.setDevice d).cmdSel = s.cmdSel := rfl
@[simp] theorem State.setDevice_cmdArg (d : Device) : (s.setDevice d).cmdArg = s.cmdArg := rfl
@[simp] theorem State.setDevice_txOp (d : Device) : (s.setDevice d).txOp = s.txOp := rfl
@[simp] theorem State.setDevice_txLo (d : Device) : (s.setDevice d).txLo = s.txLo := rfl
@[simp] theorem State.setDevice_txHi (d : Device) : (s.setDevice d).txHi = s.txHi := rfl
@[simp] theorem State.setDevice_settleMs (d : Device) : (s.setDevice d).settleMs = s.settleMs := rfl
@[simp] theorem State.setDevice_lastValid (d : Device) :
    (s.setDevice d).lastValid = s.lastValid := rfl
@[simp] theorem State.setDevice_lastOp (d : Device) : (s.setDevice d).lastOp = s.lastOp := rfl
@[simp] theorem State.setDevice_lastDw (d : Device) : (s.setDevice d).lastDw = s.lastDw := rfl
@[simp] theorem State.setDevice_resValid (d : Device) : (s.setDevice d).resValid = s.resValid := rfl
@[simp] theorem State.setDevice_resOp (d : Device) : (s.setDevice d).resOp = s.resOp := rfl
@[simp] theorem State.setDevice_resDw (d : Device) : (s.setDevice d).resDw = s.resDw := rfl
@[simp] theorem State.setDevice_resVal (d : Device) : (s.setDevice d).resVal = s.resVal := rfl
@[simp] theorem State.setDevice_curdev (d : Device) : (s.setDevice d).curdev = d := rfl
@[simp] theorem State.setDevice_cureq (d : Device) : (s.setDevice d).cureq = s.cureq := rfl
@[simp] theorem State.setDevice_faultInit (d : Device) :
    (s.setDevice d).faultInit = s.faultInit := rfl
@[simp] theorem State.setDevice_rxFifo (d : Device) : (s.setDevice d).rxFifo = s.rxFifo := rfl
@[simp] theorem State.setDevice_txLog (d : Device) : (s.setDevice d).txLog = s.txLog := rfl
@[simp] theorem State.setDevice_params (d : Device) : (s.setDevice d).params = s.params := rfl
@[simp] theorem State.setDevice_requests (d : Device) : (s.setDevice d).requests = s.requests := rfl
@[simp] theorem State.setDevice_turns (d : Device) : (s.setDevice d).turns = s.turns := rfl
@[simp] theorem State.setDevice_turnsAfter (d : Device) :
    (s.setDevice d).turnsAfter = s.turnsAfter := rfl
@[simp] theorem State.setDevice_resets (d : Device) : (s.setDevice d).resets = s.resets := rfl

@[simp] theorem State.setEqualizer_phase (e : Equalizer) : (s.setEqualizer e).phase = s.phase := rfl
@[simp] theorem State.setEqualizer_txIdx (e : Equalizer) : (s.setEqualizer e).txIdx = s.txIdx := rfl
@[simp] theorem State.setEqualizer_mstep (e : Equalizer) : (s.setEqualizer e).mstep = s.mstep := rfl
@[simp] theorem State.setEqualizer_cmdSel (e : Equalizer) :
    (s.setEqualizer e).cmdSel = s.cmdSel := rfl
@[simp] theorem State.setEqualizer_cmdArg (e : Equalizer) :
    (s.setEqualizer e).cmdArg = s.cmdArg := rfl
@[simp] theorem State.setEqualizer_txOp (e : Equalizer) : (s.setEqualizer e).txOp = s.txOp := rfl
@[simp] theorem State.setEqualizer_txLo (e : Equalizer) : (s.setEqualizer e).txLo = s.txLo := rfl
@[simp] theorem State.setEqualizer_txHi (e : Equalizer) : (s.setEqualizer e).txHi = s.txHi := rfl
@[simp] theorem State.setEqualizer_settleMs (e : Equalizer) :
    (s.setEqualizer e).settleMs = s.settleMs := rfl
@[simp] theorem State.setEqualizer_lastValid (e : Equalizer) :
    (s.setEqualizer e).lastValid = s.lastValid := rfl
@[simp] theorem State.setEqualizer_lastOp (e : Equalizer) :
    (s.setEqualizer e).lastOp = s.lastOp := rfl
@[simp] theorem State.setEqualizer_lastDw (e : Equalizer) :
    (s.setEqualizer e).lastDw = s.lastDw := rfl
@[simp] theorem State.setEqualizer_resValid (e : Equalizer) :
    (s.setEqualizer e).resValid = s.resValid := rfl
@[simp] theorem State.setEqualizer_resOp (e : Equalizer) : (s.setEqualizer e).resOp = s.resOp := rfl
@[simp] theorem State.setEqualizer_resDw (e : Equalizer) : (s.setEqualizer e).resDw = s.resDw := rfl
@[simp] theorem State.setEqualizer_resVal (e : Equalizer) :
    (s.setEqualizer e).resVal = s.resVal := rfl
@[simp] theorem State.setEqualizer_curdev (e : Equalizer) :
    (s.setEqualizer e).curdev = s.curdev := rfl
@[simp] theorem State.setEqualizer_cureq (e : Equalizer) : (s.setEqualizer e).cureq = e := rfl
@[simp] theorem State.setEqualizer_faultInit (e : Equalizer) :
    (s.setEqualizer e).faultInit = s.faultInit := rfl
@[simp] theorem State.setEqualizer_rxFifo (e : Equalizer) :
    (s.setEqualizer e).rxFifo = s.rxFifo := rfl
@[simp] theorem State.setEqualizer_txLog (e : Equalizer) : (s.setEqualizer e).txLog = s.txLog := rfl
@[simp] theorem State.setEqualizer_params (e : Equalizer) :
    (s.setEqualizer e).params = s.params := rfl
@[simp] theorem State.setEqualizer_requests (e : Equalizer) :
    (s.setEqualizer e).requests = s.requests := rfl
@[simp] theorem State.setEqualizer_turns (e : Equalizer) : (s.setEqualizer e).turns = s.turns := rfl
@[simp] theorem State.setEqualizer_turnsAfter (e : Equalizer) :
    (s.setEqualizer e).turnsAfter = s.turnsAfter := rfl
@[simp] theorem State.setEqualizer_resets (e : Equalizer) :
    (s.setEqualizer e).resets = s.resets := rfl

@[simp] theorem State.raiseInitFailure_phase : (s.raiseInitFailure).phase = .failed := rfl
@[simp] theorem State.raiseInitFailure_txIdx : (s.raiseInitFailure).txIdx = s.txIdx := rfl
@[simp] theorem State.raiseInitFailure_mstep : (s.raiseInitFailure).mstep = 0#1 := rfl
@[simp] theorem State.raiseInitFailure_cmdSel : (s.raiseInitFailure).cmdSel = s.cmdSel := rfl
@[simp] theorem State.raiseInitFailure_cmdArg : (s.raiseInitFailure).cmdArg = s.cmdArg := rfl
@[simp] theorem State.raiseInitFailure_txOp : (s.raiseInitFailure).txOp = s.txOp := rfl
@[simp] theorem State.raiseInitFailure_txLo : (s.raiseInitFailure).txLo = s.txLo := rfl
@[simp] theorem State.raiseInitFailure_txHi : (s.raiseInitFailure).txHi = s.txHi := rfl
@[simp] theorem State.raiseInitFailure_settleMs : (s.raiseInitFailure).settleMs = s.settleMs := rfl
@[simp] theorem State.raiseInitFailure_lastValid :
    (s.raiseInitFailure).lastValid = s.lastValid := rfl
@[simp] theorem State.raiseInitFailure_lastOp : (s.raiseInitFailure).lastOp = s.lastOp := rfl
@[simp] theorem State.raiseInitFailure_lastDw : (s.raiseInitFailure).lastDw = s.lastDw := rfl
@[simp] theorem State.raiseInitFailure_resValid : (s.raiseInitFailure).resValid = false := rfl
@[simp] theorem State.raiseInitFailure_resOp : (s.raiseInitFailure).resOp = 0#8 := rfl
@[simp] theorem State.raiseInitFailure_resDw : (s.raiseInitFailure).resDw = 0#16 := rfl
@[simp] theorem State.raiseInitFailure_resVal : (s.raiseInitFailure).resVal = 0#32 := rfl
@[simp] theorem State.raiseInitFailure_curdev : (s.raiseInitFailure).curdev = s.curdev := rfl
@[simp] theorem State.raiseInitFailure_cureq : (s.raiseInitFailure).cureq = s.cureq := rfl
@[simp] theorem State.raiseInitFailure_faultInit : (s.raiseInitFailure).faultInit = true := rfl
@[simp] theorem State.raiseInitFailure_rxFifo : (s.raiseInitFailure).rxFifo = s.rxFifo := rfl
@[simp] theorem State.raiseInitFailure_txLog : (s.raiseInitFailure).txLog = s.txLog := rfl
@[simp] theorem State.raiseInitFailure_params : (s.raiseInitFailure).params = s.params := rfl
@[simp] theorem State.raiseInitFailure_requests : (s.raiseInitFailure).requests = s.requests := rfl
@[simp] theorem State.raiseInitFailure_turns : (s.raiseInitFailure).turns = s.turns := rfl
@[simp] theorem State.raiseInitFailure_turnsAfter :
    (s.raiseInitFailure).turnsAfter = s.turnsAfter := rfl
@[simp] theorem State.raiseInitFailure_resets : (s.raiseInitFailure).resets = s.resets := rfl

@[simp] theorem State.resetBlock_phase : (s.resetBlock).phase = .idle := rfl
@[simp] theorem State.resetBlock_txIdx : (s.resetBlock).txIdx = 0#3 := rfl
@[simp] theorem State.resetBlock_mstep : (s.resetBlock).mstep = 0#1 := rfl
@[simp] theorem State.resetBlock_cmdSel :
    (s.resetBlock).cmdSel = Config.cmdSelAfterReset s.resets := rfl
@[simp] theorem State.resetBlock_cmdArg :
    (s.resetBlock).cmdArg = Config.cmdArgAfterReset s.resets := rfl
@[simp] theorem State.resetBlock_txOp : (s.resetBlock).txOp = Config.txOpAfterReset s.resets := rfl
@[simp] theorem State.resetBlock_txLo : (s.resetBlock).txLo = Config.txLoAfterReset s.resets := rfl
@[simp] theorem State.resetBlock_txHi : (s.resetBlock).txHi = Config.txHiAfterReset s.resets := rfl
@[simp] theorem State.resetBlock_settleMs : (s.resetBlock).settleMs = 0#10 := rfl
@[simp] theorem State.resetBlock_lastValid : (s.resetBlock).lastValid = false := rfl
@[simp] theorem State.resetBlock_lastOp :
    (s.resetBlock).lastOp = Config.lastOpAfterReset s.resets := rfl
@[simp] theorem State.resetBlock_lastDw :
    (s.resetBlock).lastDw = Config.lastDwAfterReset s.resets := rfl
@[simp] theorem State.resetBlock_resValid : (s.resetBlock).resValid = false := rfl
@[simp] theorem State.resetBlock_resOp : (s.resetBlock).resOp = 0#8 := rfl
@[simp] theorem State.resetBlock_resDw : (s.resetBlock).resDw = 0#16 := rfl
@[simp] theorem State.resetBlock_resVal : (s.resetBlock).resVal = 0#32 := rfl
@[simp] theorem State.resetBlock_curdev : (s.resetBlock).curdev = s.params.initDevice := rfl
@[simp] theorem State.resetBlock_cureq : (s.resetBlock).cureq = s.params.initEq := rfl
@[simp] theorem State.resetBlock_faultInit : (s.resetBlock).faultInit = false := rfl
@[simp] theorem State.resetBlock_rxFifo : (s.resetBlock).rxFifo = s.rxFifo := rfl
@[simp] theorem State.resetBlock_txLog : (s.resetBlock).txLog = s.txLog := rfl
@[simp] theorem State.resetBlock_params : (s.resetBlock).params = s.params := rfl
@[simp] theorem State.resetBlock_requests : (s.resetBlock).requests = s.requests := rfl
@[simp] theorem State.resetBlock_turns : (s.resetBlock).turns = s.turns := rfl
@[simp] theorem State.resetBlock_turnsAfter : (s.resetBlock).turnsAfter = s.turnsAfter := rfl
@[simp] theorem State.resetBlock_resets : (s.resetBlock).resets = s.resets + 1 := rfl

@[simp] theorem State.presentRequest_phase (r : PortRequest) :
    (s.presentRequest r).phase = s.phase := rfl
@[simp] theorem State.presentRequest_txIdx (r : PortRequest) :
    (s.presentRequest r).txIdx = s.txIdx := rfl
@[simp] theorem State.presentRequest_mstep (r : PortRequest) :
    (s.presentRequest r).mstep = s.mstep := rfl
@[simp] theorem State.presentRequest_cmdSel (r : PortRequest) :
    (s.presentRequest r).cmdSel = s.cmdSel := rfl
@[simp] theorem State.presentRequest_cmdArg (r : PortRequest) :
    (s.presentRequest r).cmdArg = s.cmdArg := rfl
@[simp] theorem State.presentRequest_txOp (r : PortRequest) :
    (s.presentRequest r).txOp = s.txOp := rfl
@[simp] theorem State.presentRequest_txLo (r : PortRequest) :
    (s.presentRequest r).txLo = s.txLo := rfl
@[simp] theorem State.presentRequest_txHi (r : PortRequest) :
    (s.presentRequest r).txHi = s.txHi := rfl
@[simp] theorem State.presentRequest_settleMs (r : PortRequest) :
    (s.presentRequest r).settleMs = s.settleMs := rfl
@[simp] theorem State.presentRequest_lastValid (r : PortRequest) :
    (s.presentRequest r).lastValid = s.lastValid := rfl
@[simp] theorem State.presentRequest_lastOp (r : PortRequest) :
    (s.presentRequest r).lastOp = s.lastOp := rfl
@[simp] theorem State.presentRequest_lastDw (r : PortRequest) :
    (s.presentRequest r).lastDw = s.lastDw := rfl
@[simp] theorem State.presentRequest_resValid (r : PortRequest) :
    (s.presentRequest r).resValid = s.resValid := rfl
@[simp] theorem State.presentRequest_resOp (r : PortRequest) :
    (s.presentRequest r).resOp = s.resOp := rfl
@[simp] theorem State.presentRequest_resDw (r : PortRequest) :
    (s.presentRequest r).resDw = s.resDw := rfl
@[simp] theorem State.presentRequest_resVal (r : PortRequest) :
    (s.presentRequest r).resVal = s.resVal := rfl
@[simp] theorem State.presentRequest_curdev (r : PortRequest) :
    (s.presentRequest r).curdev = s.curdev := rfl
@[simp] theorem State.presentRequest_cureq (r : PortRequest) :
    (s.presentRequest r).cureq = s.cureq := rfl
@[simp] theorem State.presentRequest_faultInit (r : PortRequest) :
    (s.presentRequest r).faultInit = s.faultInit := rfl
@[simp] theorem State.presentRequest_rxFifo (r : PortRequest) :
    (s.presentRequest r).rxFifo = s.rxFifo := rfl
@[simp] theorem State.presentRequest_txLog (r : PortRequest) :
    (s.presentRequest r).txLog = s.txLog := rfl
@[simp] theorem State.presentRequest_params (r : PortRequest) :
    (s.presentRequest r).params = s.params := rfl
@[simp] theorem State.presentRequest_requests (r : PortRequest) :
    (s.presentRequest r).requests = r :: s.requests := rfl
@[simp] theorem State.presentRequest_turns (r : PortRequest) :
    (s.presentRequest r).turns = .host :: s.turns := rfl
@[simp] theorem State.presentRequest_turnsAfter (r : PortRequest) :
    (s.presentRequest r).turnsAfter = s.turnsAfter := rfl
@[simp] theorem State.presentRequest_resets (r : PortRequest) :
    (s.presentRequest r).resets = s.resets := rfl

@[simp] theorem State.setRequests_phase (rs : List PortRequest) :
    (s.setRequests rs).phase = s.phase := rfl
@[simp] theorem State.setRequests_txIdx (rs : List PortRequest) :
    (s.setRequests rs).txIdx = s.txIdx := rfl
@[simp] theorem State.setRequests_mstep (rs : List PortRequest) :
    (s.setRequests rs).mstep = s.mstep := rfl
@[simp] theorem State.setRequests_cmdSel (rs : List PortRequest) :
    (s.setRequests rs).cmdSel = s.cmdSel := rfl
@[simp] theorem State.setRequests_cmdArg (rs : List PortRequest) :
    (s.setRequests rs).cmdArg = s.cmdArg := rfl
@[simp] theorem State.setRequests_txOp (rs : List PortRequest) :
    (s.setRequests rs).txOp = s.txOp := rfl
@[simp] theorem State.setRequests_txLo (rs : List PortRequest) :
    (s.setRequests rs).txLo = s.txLo := rfl
@[simp] theorem State.setRequests_txHi (rs : List PortRequest) :
    (s.setRequests rs).txHi = s.txHi := rfl
@[simp] theorem State.setRequests_settleMs (rs : List PortRequest) :
    (s.setRequests rs).settleMs = s.settleMs := rfl
@[simp] theorem State.setRequests_lastValid (rs : List PortRequest) :
    (s.setRequests rs).lastValid = s.lastValid := rfl
@[simp] theorem State.setRequests_lastOp (rs : List PortRequest) :
    (s.setRequests rs).lastOp = s.lastOp := rfl
@[simp] theorem State.setRequests_lastDw (rs : List PortRequest) :
    (s.setRequests rs).lastDw = s.lastDw := rfl
@[simp] theorem State.setRequests_resValid (rs : List PortRequest) :
    (s.setRequests rs).resValid = s.resValid := rfl
@[simp] theorem State.setRequests_resOp (rs : List PortRequest) :
    (s.setRequests rs).resOp = s.resOp := rfl
@[simp] theorem State.setRequests_resDw (rs : List PortRequest) :
    (s.setRequests rs).resDw = s.resDw := rfl
@[simp] theorem State.setRequests_resVal (rs : List PortRequest) :
    (s.setRequests rs).resVal = s.resVal := rfl
@[simp] theorem State.setRequests_curdev (rs : List PortRequest) :
    (s.setRequests rs).curdev = s.curdev := rfl
@[simp] theorem State.setRequests_cureq (rs : List PortRequest) :
    (s.setRequests rs).cureq = s.cureq := rfl
@[simp] theorem State.setRequests_faultInit (rs : List PortRequest) :
    (s.setRequests rs).faultInit = s.faultInit := rfl
@[simp] theorem State.setRequests_rxFifo (rs : List PortRequest) :
    (s.setRequests rs).rxFifo = s.rxFifo := rfl
@[simp] theorem State.setRequests_txLog (rs : List PortRequest) :
    (s.setRequests rs).txLog = s.txLog := rfl
@[simp] theorem State.setRequests_params (rs : List PortRequest) :
    (s.setRequests rs).params = s.params := rfl
@[simp] theorem State.setRequests_requests (rs : List PortRequest) :
    (s.setRequests rs).requests = rs := rfl
@[simp] theorem State.setRequests_turns (rs : List PortRequest) :
    (s.setRequests rs).turns = s.turns := rfl
@[simp] theorem State.setRequests_turnsAfter (rs : List PortRequest) :
    (s.setRequests rs).turnsAfter = s.turnsAfter := rfl
@[simp] theorem State.setRequests_resets (rs : List PortRequest) :
    (s.setRequests rs).resets = s.resets := rfl

@[simp] theorem State.setTurns_phase (ts : List Agent) : (s.setTurns ts).phase = s.phase := rfl
@[simp] theorem State.setTurns_txIdx (ts : List Agent) : (s.setTurns ts).txIdx = s.txIdx := rfl
@[simp] theorem State.setTurns_mstep (ts : List Agent) : (s.setTurns ts).mstep = s.mstep := rfl
@[simp] theorem State.setTurns_cmdSel (ts : List Agent) : (s.setTurns ts).cmdSel = s.cmdSel := rfl
@[simp] theorem State.setTurns_cmdArg (ts : List Agent) : (s.setTurns ts).cmdArg = s.cmdArg := rfl
@[simp] theorem State.setTurns_txOp (ts : List Agent) : (s.setTurns ts).txOp = s.txOp := rfl
@[simp] theorem State.setTurns_txLo (ts : List Agent) : (s.setTurns ts).txLo = s.txLo := rfl
@[simp] theorem State.setTurns_txHi (ts : List Agent) : (s.setTurns ts).txHi = s.txHi := rfl
@[simp] theorem State.setTurns_settleMs (ts : List Agent) :
    (s.setTurns ts).settleMs = s.settleMs := rfl
@[simp] theorem State.setTurns_lastValid (ts : List Agent) :
    (s.setTurns ts).lastValid = s.lastValid := rfl
@[simp] theorem State.setTurns_lastOp (ts : List Agent) : (s.setTurns ts).lastOp = s.lastOp := rfl
@[simp] theorem State.setTurns_lastDw (ts : List Agent) : (s.setTurns ts).lastDw = s.lastDw := rfl
@[simp] theorem State.setTurns_resValid (ts : List Agent) :
    (s.setTurns ts).resValid = s.resValid := rfl
@[simp] theorem State.setTurns_resOp (ts : List Agent) : (s.setTurns ts).resOp = s.resOp := rfl
@[simp] theorem State.setTurns_resDw (ts : List Agent) : (s.setTurns ts).resDw = s.resDw := rfl
@[simp] theorem State.setTurns_resVal (ts : List Agent) : (s.setTurns ts).resVal = s.resVal := rfl
@[simp] theorem State.setTurns_curdev (ts : List Agent) : (s.setTurns ts).curdev = s.curdev := rfl
@[simp] theorem State.setTurns_cureq (ts : List Agent) : (s.setTurns ts).cureq = s.cureq := rfl
@[simp] theorem State.setTurns_faultInit (ts : List Agent) :
    (s.setTurns ts).faultInit = s.faultInit := rfl
@[simp] theorem State.setTurns_rxFifo (ts : List Agent) : (s.setTurns ts).rxFifo = s.rxFifo := rfl
@[simp] theorem State.setTurns_txLog (ts : List Agent) : (s.setTurns ts).txLog = s.txLog := rfl
@[simp] theorem State.setTurns_params (ts : List Agent) : (s.setTurns ts).params = s.params := rfl
@[simp] theorem State.setTurns_requests (ts : List Agent) :
    (s.setTurns ts).requests = s.requests := rfl
@[simp] theorem State.setTurns_turns (ts : List Agent) : (s.setTurns ts).turns = ts := rfl
@[simp] theorem State.setTurns_turnsAfter (ts : List Agent) :
    (s.setTurns ts).turnsAfter = s.turnsAfter := rfl
@[simp] theorem State.setTurns_resets (ts : List Agent) : (s.setTurns ts).resets = s.resets := rfl

@[simp] theorem State.setTurnsAfter_phase (a : TurnsAfter) :
    (s.setTurnsAfter a).phase = s.phase := rfl
@[simp] theorem State.setTurnsAfter_txIdx (a : TurnsAfter) :
    (s.setTurnsAfter a).txIdx = s.txIdx := rfl
@[simp] theorem State.setTurnsAfter_mstep (a : TurnsAfter) :
    (s.setTurnsAfter a).mstep = s.mstep := rfl
@[simp] theorem State.setTurnsAfter_cmdSel (a : TurnsAfter) :
    (s.setTurnsAfter a).cmdSel = s.cmdSel := rfl
@[simp] theorem State.setTurnsAfter_cmdArg (a : TurnsAfter) :
    (s.setTurnsAfter a).cmdArg = s.cmdArg := rfl
@[simp] theorem State.setTurnsAfter_txOp (a : TurnsAfter) : (s.setTurnsAfter a).txOp = s.txOp := rfl
@[simp] theorem State.setTurnsAfter_txLo (a : TurnsAfter) : (s.setTurnsAfter a).txLo = s.txLo := rfl
@[simp] theorem State.setTurnsAfter_txHi (a : TurnsAfter) : (s.setTurnsAfter a).txHi = s.txHi := rfl
@[simp] theorem State.setTurnsAfter_settleMs (a : TurnsAfter) :
    (s.setTurnsAfter a).settleMs = s.settleMs := rfl
@[simp] theorem State.setTurnsAfter_lastValid (a : TurnsAfter) :
    (s.setTurnsAfter a).lastValid = s.lastValid := rfl
@[simp] theorem State.setTurnsAfter_lastOp (a : TurnsAfter) :
    (s.setTurnsAfter a).lastOp = s.lastOp := rfl
@[simp] theorem State.setTurnsAfter_lastDw (a : TurnsAfter) :
    (s.setTurnsAfter a).lastDw = s.lastDw := rfl
@[simp] theorem State.setTurnsAfter_resValid (a : TurnsAfter) :
    (s.setTurnsAfter a).resValid = s.resValid := rfl
@[simp] theorem State.setTurnsAfter_resOp (a : TurnsAfter) :
    (s.setTurnsAfter a).resOp = s.resOp := rfl
@[simp] theorem State.setTurnsAfter_resDw (a : TurnsAfter) :
    (s.setTurnsAfter a).resDw = s.resDw := rfl
@[simp] theorem State.setTurnsAfter_resVal (a : TurnsAfter) :
    (s.setTurnsAfter a).resVal = s.resVal := rfl
@[simp] theorem State.setTurnsAfter_curdev (a : TurnsAfter) :
    (s.setTurnsAfter a).curdev = s.curdev := rfl
@[simp] theorem State.setTurnsAfter_cureq (a : TurnsAfter) :
    (s.setTurnsAfter a).cureq = s.cureq := rfl
@[simp] theorem State.setTurnsAfter_faultInit (a : TurnsAfter) :
    (s.setTurnsAfter a).faultInit = s.faultInit := rfl
@[simp] theorem State.setTurnsAfter_rxFifo (a : TurnsAfter) :
    (s.setTurnsAfter a).rxFifo = s.rxFifo := rfl
@[simp] theorem State.setTurnsAfter_txLog (a : TurnsAfter) :
    (s.setTurnsAfter a).txLog = s.txLog := rfl
@[simp] theorem State.setTurnsAfter_params (a : TurnsAfter) :
    (s.setTurnsAfter a).params = s.params := rfl
@[simp] theorem State.setTurnsAfter_requests (a : TurnsAfter) :
    (s.setTurnsAfter a).requests = s.requests := rfl
@[simp] theorem State.setTurnsAfter_turns (a : TurnsAfter) :
    (s.setTurnsAfter a).turns = s.turns := rfl
@[simp] theorem State.setTurnsAfter_turnsAfter (a : TurnsAfter) :
    (s.setTurnsAfter a).turnsAfter = a := rfl
@[simp] theorem State.setTurnsAfter_resets (a : TurnsAfter) :
    (s.setTurnsAfter a).resets = s.resets := rfl

@[simp] theorem State.takeTurn_phase : s.takeTurn.phase = s.phase := rfl
@[simp] theorem State.takeTurn_txIdx : s.takeTurn.txIdx = s.txIdx := rfl
@[simp] theorem State.takeTurn_mstep : s.takeTurn.mstep = s.mstep := rfl
@[simp] theorem State.takeTurn_cmdSel : s.takeTurn.cmdSel = s.cmdSel := rfl
@[simp] theorem State.takeTurn_cmdArg : s.takeTurn.cmdArg = s.cmdArg := rfl
@[simp] theorem State.takeTurn_txOp : s.takeTurn.txOp = s.txOp := rfl
@[simp] theorem State.takeTurn_txLo : s.takeTurn.txLo = s.txLo := rfl
@[simp] theorem State.takeTurn_txHi : s.takeTurn.txHi = s.txHi := rfl
@[simp] theorem State.takeTurn_settleMs : s.takeTurn.settleMs = s.settleMs := rfl
@[simp] theorem State.takeTurn_lastValid : s.takeTurn.lastValid = s.lastValid := rfl
@[simp] theorem State.takeTurn_lastOp : s.takeTurn.lastOp = s.lastOp := rfl
@[simp] theorem State.takeTurn_lastDw : s.takeTurn.lastDw = s.lastDw := rfl
@[simp] theorem State.takeTurn_resValid : s.takeTurn.resValid = s.resValid := rfl
@[simp] theorem State.takeTurn_resOp : s.takeTurn.resOp = s.resOp := rfl
@[simp] theorem State.takeTurn_resDw : s.takeTurn.resDw = s.resDw := rfl
@[simp] theorem State.takeTurn_resVal : s.takeTurn.resVal = s.resVal := rfl
@[simp] theorem State.takeTurn_curdev : s.takeTurn.curdev = s.curdev := rfl
@[simp] theorem State.takeTurn_cureq : s.takeTurn.cureq = s.cureq := rfl
@[simp] theorem State.takeTurn_faultInit : s.takeTurn.faultInit = s.faultInit := rfl
@[simp] theorem State.takeTurn_rxFifo : s.takeTurn.rxFifo = s.rxFifo := rfl
@[simp] theorem State.takeTurn_txLog : s.takeTurn.txLog = s.txLog := rfl
@[simp] theorem State.takeTurn_params : s.takeTurn.params = s.params := rfl
@[simp] theorem State.takeTurn_requests : s.takeTurn.requests = s.requests := rfl
@[simp] theorem State.takeTurn_turns : s.takeTurn.turns = s.nextTurn.2.1 := rfl
@[simp] theorem State.takeTurn_turnsAfter : s.takeTurn.turnsAfter = s.nextTurn.2.2 := rfl
@[simp] theorem State.takeTurn_resets : s.takeTurn.resets = s.resets := rfl

end Sys2Proof.Machine
end

