-- ==== Sys2Proof/Laws/Ops.lean ====
section
/-! SUPPORT. For each shared operation, once, everything it can answer. Proofs cite these instead of
unfolding the operation. -/

namespace Sys2Proof.Machine

/-- `issue` completes exactly in IDLE. -/
theorem whenIdle_eq_next_iff {s t u : State} :
    whenIdle s t = .next u ↔ s.phase = .idle ∧ u = t := by
  unfold whenIdle
  cases s.phase <;> simp [eq_comm]

theorem whenIdle_of_idle {s t : State} (h : s.phase = .idle) : whenIdle s t = .next t :=
  whenIdle_eq_next_iff.mpr ⟨h, rfl⟩

/-- Outside IDLE the port is closed. -/
theorem whenIdle_closed {s t : State} (h : s.phase ≠ .idle) :
    whenIdle s t = .refused .portBusy ∨ whenIdle s t = .refused .portFailed := by
  unfold whenIdle
  cases hp : s.phase <;> simp_all

/-- A framed `issue` completes exactly in IDLE, with the latches written and the frame loaded. -/
theorem issueFrame_eq_next_iff {x : Sel} {a : Word} {op : Byte} {w : Word} {s u : State} :
    issueFrame x a op w s = .next u ↔
      s.phase = .idle ∧ u = (s.latchCommand x a).loadFrame op w := by
  unfold issueFrame; exact whenIdle_eq_next_iff

theorem issueFrame_of_idle {x : Sel} {a : Word} {op : Byte} {w : Word} {s : State}
    (h : s.phase = .idle) :
    issueFrame x a op w s = .next ((s.latchCommand x a).loadFrame op w) :=
  whenIdle_of_idle h

/-- A skipped `issue` completes exactly in IDLE, with the latches written and no answer reported. -/
theorem issueSkip_eq_next_iff {x : Sel} {a : Word} {s u : State} :
    issueSkip x a s = .next u ↔ s.phase = .idle ∧ u = (s.latchCommand x a).clearResult := by
  unfold issueSkip; exact whenIdle_eq_next_iff

/-- A device command completes only with a device in its argument. -/
theorem withDevice_eq_next_iff {a : Word} {k : Device → Result} {u : State} :
    withDevice a k = .next u ↔ ∃ d, deviceOfArg a = some d ∧ k d = .next u := by
  unfold withDevice
  cases deviceOfArg a <;> simp

theorem withDevice_some {a : Word} {d : Device} {k : Device → Result}
    (h : deviceOfArg a = some d) : withDevice a k = k d := by
  unfold withDevice; rw [h]

theorem withDevice_none {a : Word} {k : Device → Result} (h : deviceOfArg a = none) :
    withDevice a k = .refused (.notAccepted .unknownDevice) := by
  unfold withDevice; rw [h]

/-- A file count sends the query of a storage device and skips for the other two. -/
theorem issueFileCount_eq_next_iff {x : Sel} {a : Word} {d : Device} {s u : State} :
    issueFileCount x a d s = .next u ↔ s.phase = .idle ∧
      ((∃ op, fileCountOp d = some op ∧ u = (s.latchCommand x a).loadFrame op 0#16) ∨
       (fileCountOp d = none ∧ u = (s.latchCommand x a).clearResult)) := by
  unfold issueFileCount
  cases fileCountOp d <;> simp [issueFrame_eq_next_iff, issueSkip_eq_next_iff]

/-- An arriving byte that finds room is appended. -/
theorem rxByte_appends {s : State} {b : Byte}
    (h : ∀ c, s.params.rxCapacity = some c → s.rxFifo.length < c) :
    s.rxByte b = { s with rxFifo := s.rxFifo ++ [b] } := by
  unfold State.rxByte
  split
  · rfl
  · next c hc => exact if_pos (h c hc)

/-- An arriving byte that finds the buffer full is lost. -/
theorem rxByte_loses {s : State} {b : Byte} {c : Nat} (h : s.params.rxCapacity = some c)
    (hl : c ≤ s.rxFifo.length) : s.rxByte b = s := by
  unfold State.rxByte
  rw [h]
  exact if_neg (Nat.not_lt.mpr hl)

/-- An arriving byte is appended or lost. -/
theorem rxByte_cases (s : State) (b : Byte) :
    (s.rxByte b = { s with rxFifo := s.rxFifo ++ [b] } ∧
      ∀ c, s.params.rxCapacity = some c → s.rxFifo.length < c) ∨
    (s.rxByte b = s ∧ ∃ c, s.params.rxCapacity = some c ∧ c ≤ s.rxFifo.length) := by
  by_cases h : ∀ c, s.params.rxCapacity = some c → s.rxFifo.length < c
  · exact .inl ⟨rxByte_appends h, h⟩
  · push Not at h
    obtain ⟨c, hc, hl⟩ := h
    exact .inr ⟨rxByte_loses hc hl, c, hc, hl⟩

end Sys2Proof.Machine
end

