-- ==== Sys2Proof/Laws/PerInstr.lean ====
section
/-! SUPPORT. What holds of every command, proved one constructor at a time: the port's selector code
is read back, and the selector with the argument is the whole command (spec/30_encoding.md R105). -/

namespace Sys2Proof

/-- The port's code of a selector is read back: the code is injective, as R105 asks. -/
theorem Sel.ofCode_code (s : Sel) : Sel.ofCode s.code = some s := by
  cases s <;> decide

/-- The opcode of a wire command is read back (R101). -/
theorem Sel.ofOpcode_opcode {s : Sel} {op : Byte} (h : s.opcode = some op) :
    Sel.ofOpcode op = some s := by
  cases s <;> simp [Sel.opcode] at h <;> subst h <;> decide

end Sys2Proof

namespace Sys2Proof.Laws.RequestCode

/-- The code of the command's selector names that selector, and selector and argument make the command
again. -/
def Statement (i : Instr) : Prop :=
  Sel.ofCode (encodeRequest i).code = some i.sel ∧ i.sel.instr (encodeRequest i).arg = i

theorem next (arg : Word) : Statement (.next arg) := ⟨Sel.ofCode_code .next, rfl⟩
theorem prev (arg : Word) : Statement (.prev arg) := ⟨Sel.ofCode_code .prev, rfl⟩
theorem playidx (arg : Word) : Statement (.playidx arg) := ⟨Sel.ofCode_code .playidx, rfl⟩
theorem volup (arg : Word) : Statement (.volup arg) := ⟨Sel.ofCode_code .volup, rfl⟩
theorem voldn (arg : Word) : Statement (.voldn arg) := ⟨Sel.ofCode_code .voldn, rfl⟩
theorem volset (arg : Word) : Statement (.volset arg) := ⟨Sel.ofCode_code .volset, rfl⟩
theorem eqset (arg : Word) : Statement (.eqset arg) := ⟨Sel.ofCode_code .eqset, rfl⟩
theorem repcur (arg : Word) : Statement (.repcur arg) := ⟨Sel.ofCode_code .repcur, rfl⟩
theorem devsel (arg : Word) : Statement (.devsel arg) := ⟨Sel.ofCode_code .devsel, rfl⟩
theorem lpon (arg : Word) : Statement (.lpon arg) := ⟨Sel.ofCode_code .lpon, rfl⟩
theorem chiprst (arg : Word) : Statement (.chiprst arg) := ⟨Sel.ofCode_code .chiprst, rfl⟩
theorem play (arg : Word) : Statement (.play arg) := ⟨Sel.ofCode_code .play, rfl⟩
theorem pause (arg : Word) : Statement (.pause arg) := ⟨Sel.ofCode_code .pause, rfl⟩
theorem playft (arg : Word) : Statement (.playft arg) := ⟨Sel.ofCode_code .playft, rfl⟩
theorem loopall (arg : Word) : Statement (.loopall arg) := ⟨Sel.ofCode_code .loopall, rfl⟩
theorem playfold (arg : Word) : Statement (.playfold arg) := ⟨Sel.ofCode_code .playfold, rfl⟩
theorem stop (arg : Word) : Statement (.stop arg) := ⟨Sel.ofCode_code .stop, rfl⟩
theorem loopfold (arg : Word) : Statement (.loopfold arg) := ⟨Sel.ofCode_code .loopfold, rfl⟩
theorem shuffle (arg : Word) : Statement (.shuffle arg) := ⟨Sel.ofCode_code .shuffle, rfl⟩
theorem loopone (arg : Word) : Statement (.loopone arg) := ⟨Sel.ofCode_code .loopone, rfl⟩
theorem dac (arg : Word) : Statement (.dac arg) := ⟨Sel.ofCode_code .dac, rfl⟩
theorem qstate (arg : Word) : Statement (.qstate arg) := ⟨Sel.ofCode_code .qstate, rfl⟩
theorem qvol (arg : Word) : Statement (.qvol arg) := ⟨Sel.ofCode_code .qvol, rfl⟩
theorem qeq (arg : Word) : Statement (.qeq arg) := ⟨Sel.ofCode_code .qeq, rfl⟩
theorem qfusb (arg : Word) : Statement (.qfusb arg) := ⟨Sel.ofCode_code .qfusb, rfl⟩
theorem qfsd (arg : Word) : Statement (.qfsd arg) := ⟨Sel.ofCode_code .qfsd, rfl⟩
theorem qfflash (arg : Word) : Statement (.qfflash arg) := ⟨Sel.ofCode_code .qfflash, rfl⟩
theorem qffold (arg : Word) : Statement (.qffold arg) := ⟨Sel.ofCode_code .qffold, rfl⟩
theorem lpoff (arg : Word) : Statement (.lpoff arg) := ⟨Sel.ofCode_code .lpoff, rfl⟩
theorem init (arg : Word) : Statement (.init arg) := ⟨Sel.ofCode_code .init, rfl⟩
theorem fcnt (arg : Word) : Statement (.fcnt arg) := ⟨Sel.ofCode_code .fcnt, rfl⟩
theorem fcntc (arg : Word) : Statement (.fcntc arg) := ⟨Sel.ofCode_code .fcntc, rfl⟩

end Sys2Proof.Laws.RequestCode
end

