-- ==== Sys2Proof/Laws/Sequencer.lean ====
section
/-! SUPPORT. What each step of the sequencer and of the timebase can do, said once. -/

namespace Sys2Proof.Machine

/-- The byte that goes out next is a byte of the frame in progress. -/
theorem nextTxByte_getElem (s : State) :
    (encodeTx s.txOp s.txLo s.txHi)[s.txIdx.toNat]? = some s.nextTxByte := by
  have h : s.txIdx.toNat < (encodeTx s.txOp s.txLo s.txHi).length := s.txIdx.isLt
  unfold State.nextTxByte
  rw [List.getD_eq_getElem?_getD, List.getElem?_eq_getElem h]
  rfl

theorem txByteStep_last {s : State} (h : s.txIdx = 7#3) :
    txByteStep s = { s with
      txLog := s.txLog ++ [s.nextTxByte], txIdx := 0#3
      settleMs := settleDelay s.txOp, phase := .settle } := by
  unfold txByteStep; rw [if_pos h]; rfl

theorem txByteStep_more {s : State} (h : s.txIdx ≠ 7#3) :
    txByteStep s = { s with txLog := s.txLog ++ [s.nextTxByte], txIdx := s.txIdx + 1#3 } := by
  unfold txByteStep; rw [if_neg h]; rfl

theorem tickStep_counts {s : State} (hp : s.phase = .settle) (h : s.settleMs ≠ 0#10) :
    tickStep s = { s with settleMs := s.settleMs - 1#10 } := by
  unfold tickStep; rw [if_pos ⟨hp, h⟩]

theorem tickStep_still {s : State} (h : s.phase ≠ .settle ∨ s.settleMs = 0#10) :
    tickStep s = s := by
  unfold tickStep
  rw [if_neg]
  rintro ⟨hp, hm⟩
  exact h.elim (· hp) hm

theorem settledStep_drains {s : State} (h : s.txOp ∈ querySet) :
    settledStep s = { s with lastValid := false, phase := .drain } := by
  unfold settledStep; rw [if_pos h]

theorem settledStep_queries {s : State} (h : s.txOp ∉ querySet) (hi : s.cmdSel = .init)
    (hm : s.mstep = 0#1) :
    settledStep s = { s.loadFrame 0x42#8 0#16 with mstep := 1#1 } := by
  unfold settledStep; rw [if_neg h, if_pos ⟨hi, hm⟩]

theorem settledStep_ends {s : State} (h : s.txOp ∉ querySet)
    (hi : ¬(s.cmdSel = .init ∧ s.mstep = 0#1)) :
    settledStep s = { s with phase := .idle } := by
  unfold settledStep; rw [if_neg h, if_neg hi]

theorem resultValue_none (x : Sel) : resultValue x none = 0#32 := rfl

theorem completeCommand_answered {s : State} (h : s.lastValid = true) :
    completeCommand s =
      { s.writeResult true s.lastOp s.lastDw (resultValue s.cmdSel (some (s.lastOp, s.lastDw))) with
        mstep := 0#1, phase := .idle } := by
  unfold completeCommand State.lastAnswer; simp [h]

theorem completeCommand_unanswered {s : State} (h : s.lastValid = false) (hi : s.cmdSel ≠ .init) :
    completeCommand s = { s.clearResult with mstep := 0#1, phase := .idle } := by
  unfold completeCommand State.lastAnswer
  simp [h, hi, resultValue_none, State.clearResult]

theorem completeCommand_fails {s : State} (h : s.lastValid = false) (hi : s.cmdSel = .init) :
    completeCommand s = s.raiseInitFailure := by
  unfold completeCommand State.lastAnswer; simp [h, hi]

/-- A chunk that decodes becomes the running answer. -/
theorem drainAttempt_decodes {s : State} {op : Byte} {dw : Word}
    (h : decodeRx (s.rxFifo.take 10) = some (op, dw)) :
    drainAttempt s =
      { s with rxFifo := s.rxFifo.drop 10, lastValid := true, lastOp := op, lastDw := dw } := by
  have hl : s.rxFifo.length ≠ 0 := by
    intro h0
    rw [List.eq_nil_of_length_eq_zero h0] at h
    cases h
  unfold drainAttempt State.rxAvail State.rxChunk rxLen
  rw [if_neg hl, h]
  rfl

/-- A chunk that does not decode, or an empty buffer, ends the drain. -/
theorem drainAttempt_ends {s : State} (h : decodeRx (s.rxFifo.take 10) = none) :
    drainAttempt s = completeCommand (s.rxDrop 10) := by
  unfold drainAttempt State.rxAvail State.rxChunk rxLen
  split
  · next h0 =>
    have hd : s.rxFifo.drop 10 = s.rxFifo := by simp [List.eq_nil_of_length_eq_zero h0]
    have : s.rxDrop 10 = s := by unfold State.rxDrop; rw [hd]
    rw [this]
  · rw [h]

/-! The sequencer's turn, phase by phase. -/

theorem sequencerStep_tx {s : State} (h : s.phase = .tx) : sequencerStep s = txByteStep s := by
  unfold sequencerStep; rw [h]

theorem sequencerStep_settling {s : State} (h : s.phase = .settle) (hm : s.settleMs ≠ 0#10) :
    sequencerStep s = s := by
  unfold sequencerStep; rw [h]; exact if_neg hm

theorem sequencerStep_settled {s : State} (h : s.phase = .settle) (hm : s.settleMs = 0#10) :
    sequencerStep s = settledStep s := by
  unfold sequencerStep; rw [h]; exact if_pos hm

theorem sequencerStep_drain {s : State} (h : s.phase = .drain) : sequencerStep s = drainAttempt s := by
  unfold sequencerStep; rw [h]

theorem sequencerStep_rests {s : State} (h : s.phase = .idle ∨ s.phase = .failed) :
    sequencerStep s = s := by
  unfold sequencerStep; rcases h with h | h <;> rw [h]

/-- Everything a tick can do (R140). -/
theorem tickStep_cases (s : State) :
    (s.phase = .settle ∧ s.settleMs ≠ 0#10 ∧
      tickStep s = { s with settleMs := s.settleMs - 1#10 }) ∨
    tickStep s = s := by
  by_cases h : s.phase = .settle ∧ s.settleMs ≠ 0#10
  · exact .inl ⟨h.1, h.2, tickStep_counts h.1 h.2⟩
  · exact .inr (tickStep_still (by tauto))

/-- Everything `tx_byte` can do (R135). -/
theorem txByteStep_cases (s : State) :
    (s.txIdx = 7#3 ∧ txByteStep s = { s with
      txLog := s.txLog ++ [s.nextTxByte], txIdx := 0#3
      settleMs := settleDelay s.txOp, phase := .settle }) ∨
    (s.txIdx ≠ 7#3 ∧
      txByteStep s = { s with txLog := s.txLog ++ [s.nextTxByte], txIdx := s.txIdx + 1#3 }) := by
  by_cases h : s.txIdx = 7#3
  · exact .inl ⟨h, txByteStep_last h⟩
  · exact .inr ⟨h, txByteStep_more h⟩

/-- Everything `settled` can do (R142). -/
theorem settledStep_cases (s : State) :
    (s.txOp ∈ querySet ∧ settledStep s = { s with lastValid := false, phase := .drain }) ∨
    (s.txOp ∉ querySet ∧ s.cmdSel = .init ∧ s.mstep = 0#1 ∧
      settledStep s = { s.loadFrame 0x42#8 0#16 with mstep := 1#1 }) ∨
    (s.txOp ∉ querySet ∧ ¬(s.cmdSel = .init ∧ s.mstep = 0#1) ∧
      settledStep s = { s with phase := .idle }) := by
  by_cases hq : s.txOp ∈ querySet
  · exact .inl ⟨hq, settledStep_drains hq⟩
  · by_cases hi : s.cmdSel = .init ∧ s.mstep = 0#1
    · exact .inr (.inl ⟨hq, hi.1, hi.2, settledStep_queries hq hi.1 hi.2⟩)
    · exact .inr (.inr ⟨hq, hi, settledStep_ends hq hi⟩)

/-- Everything a drain attempt can do: go on with a new running answer, or end answered, unanswered
or failed (R145, R148, R290). -/
theorem drainAttempt_cases (s : State) :
    (∃ op dw, decodeRx (s.rxFifo.take 10) = some (op, dw) ∧ drainAttempt s =
      { s with rxFifo := s.rxFifo.drop 10, lastValid := true, lastOp := op, lastDw := dw }) ∨
    (decodeRx (s.rxFifo.take 10) = none ∧ s.lastValid = true ∧ drainAttempt s =
      { (s.rxDrop 10).writeResult true s.lastOp s.lastDw
          (resultValue s.cmdSel (some (s.lastOp, s.lastDw))) with mstep := 0#1, phase := .idle }) ∨
    (decodeRx (s.rxFifo.take 10) = none ∧ s.lastValid = false ∧ s.cmdSel ≠ .init ∧
      drainAttempt s = { (s.rxDrop 10).clearResult with mstep := 0#1, phase := .idle }) ∨
    (decodeRx (s.rxFifo.take 10) = none ∧ s.lastValid = false ∧ s.cmdSel = .init ∧
      drainAttempt s = (s.rxDrop 10).raiseInitFailure) := by
  cases hd : decodeRx (s.rxFifo.take 10) with
  | some r => exact .inl ⟨r.1, r.2, rfl, drainAttempt_decodes hd⟩
  | none =>
    rw [drainAttempt_ends hd]
    cases hv : s.lastValid with
    | true => exact .inr (.inl ⟨rfl, rfl, completeCommand_answered (s := s.rxDrop 10) hv⟩)
    | false =>
      by_cases hi : s.cmdSel = .init
      · exact .inr (.inr (.inr ⟨rfl, rfl, hi, completeCommand_fails (s := s.rxDrop 10) hv hi⟩))
      · exact .inr (.inr (.inl ⟨rfl, rfl, hi, completeCommand_unanswered (s := s.rxDrop 10) hv hi⟩))

/-- What the sequencer's turn is, phase by phase. -/
theorem sequencerStep_cases (s : State) :
    (s.phase = .tx ∧ sequencerStep s = txByteStep s) ∨
    (s.phase = .settle ∧ s.settleMs ≠ 0#10 ∧ sequencerStep s = s) ∨
    (s.phase = .settle ∧ s.settleMs = 0#10 ∧ sequencerStep s = settledStep s) ∨
    (s.phase = .drain ∧ sequencerStep s = drainAttempt s) ∨
    ((s.phase = .idle ∨ s.phase = .failed) ∧ sequencerStep s = s) := by
  match hp : s.phase with
  | .tx => exact .inl ⟨rfl, sequencerStep_tx hp⟩
  | .settle =>
    by_cases hm : s.settleMs = 0#10
    · exact .inr (.inr (.inl ⟨rfl, hm, sequencerStep_settled hp hm⟩))
    · exact .inr (.inl ⟨rfl, hm, sequencerStep_settling hp hm⟩)
  | .drain => exact .inr (.inr (.inr (.inl ⟨rfl, sequencerStep_drain hp⟩)))
  | .idle => exact .inr (.inr (.inr (.inr ⟨.inl rfl, sequencerStep_rests (.inl hp)⟩)))
  | .failed => exact .inr (.inr (.inr (.inr ⟨.inr rfl, sequencerStep_rests (.inr hp)⟩)))

end Sys2Proof.Machine
end

