-- ==== Sys2Proof/Laws/Step.lean ====
section
/-! SUPPORT. What `exec`, a turn and a step can answer, said once. -/

namespace Sys2Proof.Machine

/-- The two ways an `issue` can complete, over the session registers it may write (R131): a frame is
loaded, or the command is over with no answer. -/
theorem exec_eq_next {i : Instr} {s u : State} (h : exec i s = .next u) :
    s.phase = .idle ∧
      ((∃ op w d e, u = ((({ s with curdev := d, cureq := e } : State).latchCommand i.sel
            i.arg).loadFrame op w) ∧ (Sel.ofOpcode op).isSome = true ∧
          (i.sel = .init → op = 0x09#8) ∧
          (d ≠ s.curdev → i.sel ∈ [.devsel, .init] ∧ deviceOfArg i.arg = some d) ∧
          (e ≠ s.cureq → i.sel = .eqset ∧ e = equalizerOfIndex (coerce i.arg.toInt)) ∧
          (op ∈ querySet → drains i.sel = true)) ∨
       (u = (s.latchCommand i.sel i.arg).clearResult ∧
          ((i.sel = .fcnt ∧ (deviceOfArg i.arg = some .aux ∨ deviceOfArg i.arg = some .sleep)) ∨
           (i.sel = .fcntc ∧ (s.curdev = .aux ∨ s.curdev = .sleep))))) := by
  cases i
  case devsel a =>
    obtain ⟨d, hd, h⟩ := withDevice_eq_next_iff.mp h
    obtain ⟨hp, rfl⟩ := issueFrame_eq_next_iff.mp h
    exact ⟨hp, .inl ⟨0x09#8, _, d, s.cureq, rfl, by decide, by simp [Instr.sel],
      fun _ => ⟨by simp [Instr.sel], hd⟩, by simp, by simp only [Instr.sel]; decide⟩⟩
  case init a =>
    obtain ⟨d, hd, h⟩ := withDevice_eq_next_iff.mp h
    obtain ⟨hp, rfl⟩ := issueFrame_eq_next_iff.mp h
    exact ⟨hp, .inl ⟨0x09#8, _, d, s.cureq, rfl, by decide, by simp,
      fun _ => ⟨by simp [Instr.sel], hd⟩, by simp, by simp only [Instr.sel]; decide⟩⟩
  case eqset a =>
    obtain ⟨hp, rfl⟩ := issueFrame_eq_next_iff.mp h
    exact ⟨hp, .inl ⟨0x07#8, _, s.curdev, _, rfl, by decide, by simp [Instr.sel], by simp,
      fun _ => ⟨rfl, rfl⟩, by simp only [Instr.sel]; decide⟩⟩
  case fcnt a =>
    obtain ⟨d, hd, h⟩ := withDevice_eq_next_iff.mp h
    obtain ⟨hp, ⟨op, hop, rfl⟩ | ⟨hop, rfl⟩⟩ := issueFileCount_eq_next_iff.mp h
    · refine ⟨hp, .inl ⟨op, _, s.curdev, s.cureq, rfl, ?_, by simp [Instr.sel], by simp, by simp,
        fun _ => rfl⟩⟩
      cases d <;> simp [fileCountOp] at hop <;> subst hop <;> decide
    · refine ⟨hp, .inr ⟨rfl, .inl ⟨rfl, ?_⟩⟩⟩
      cases d <;> simp [fileCountOp] at hop <;> simp [Instr.arg, hd]
  case fcntc a =>
    obtain ⟨hp, ⟨op, hop, rfl⟩ | ⟨hop, rfl⟩⟩ := issueFileCount_eq_next_iff.mp h
    · refine ⟨hp, .inl ⟨op, _, s.curdev, s.cureq, rfl, ?_, by simp [Instr.sel], by simp, by simp,
        fun _ => rfl⟩⟩
      revert hop; cases s.curdev <;> intro hop <;> simp [fileCountOp] at hop <;> subst hop <;> decide
    · refine ⟨hp, .inr ⟨rfl, .inr ⟨rfl, ?_⟩⟩⟩
      revert hop; cases s.curdev <;> intro hop <;> simp [fileCountOp] at hop <;> simp
  all_goals
    obtain ⟨hp, rfl⟩ := issueFrame_eq_next_iff.mp h
    exact ⟨hp, .inl ⟨_, _, s.curdev, s.cureq, rfl, by decide, by simp [Instr.sel], by simp, by simp,
      by simp only [Instr.sel]; decide⟩⟩

/-- A file count of a device that has no files to count sends nothing and is over at once (R262, R264). -/
theorem exec_skips {i : Instr} {s : State} (hp : s.phase = .idle)
    (h : (i.sel = .fcnt ∧ (deviceOfArg i.arg = some .aux ∨ deviceOfArg i.arg = some .sleep)) ∨
      (i.sel = .fcntc ∧ (s.curdev = .aux ∨ s.curdev = .sleep))) :
    exec i s = .next (s.latchCommand i.sel i.arg).clearResult := by
  rcases h with ⟨hi, h⟩ | ⟨hi, h⟩ <;> cases i <;> cases hi
  · rcases h with h | h <;>
      exact (withDevice_some h).trans (issueFileCount_eq_next_iff.mpr ⟨hp, .inr ⟨rfl, rfl⟩⟩)
  · refine issueFileCount_eq_next_iff.mpr ⟨hp, .inr ⟨?_, rfl⟩⟩
    rcases h with h | h <;> rw [h] <;> rfl

/-- Everything the order of turns can say: a listed turn, the agent that is due, a cycle that starts over,
or an entry of the free sequence; and the state once that turn is taken. -/
theorem nextTurn_cases (s : State) :
    (∃ a ts, s.turns = a :: ts ∧ s.nextTurn.1 = a ∧ s.takeTurn = s.setTurns ts) ∨
    (s.turns = [] ∧ s.turnsAfter = .due ∧ s.nextTurn.1 = s.defaultAgent ∧ s.takeTurn = s) ∨
    (∃ a ts, s.turns = [] ∧ s.turnsAfter = .cycle a ts ∧ s.nextTurn.1 = a ∧
      s.takeTurn = s.setTurns ts) ∨
    (∃ n, s.turns = [] ∧ s.turnsAfter = .free n ∧ s.nextTurn.1 = Config.freeTurn n ∧
      s.takeTurn = s.setTurnsAfter (.free (n + 1))) := by
  unfold State.takeTurn State.nextTurn
  rcases s with ⟨⟩
  rename_i ts ta _
  cases ts with
  | cons a ts => exact .inl ⟨a, ts, rfl, rfl, rfl⟩
  | nil =>
    cases ta with
    | due => exact .inr (.inl ⟨rfl, rfl, rfl, rfl⟩)
    | cycle a ts => exact .inr (.inr (.inl ⟨a, ts, rfl, rfl, rfl, rfl⟩))
    | free n => exact .inr (.inr (.inr ⟨n, rfl, rfl, rfl, rfl⟩))

/-- The turn that is taken, by name. -/
theorem step_eq (s : State) : step s = agentTurn s.nextTurn.1 s.takeTurn := rfl

/-- A named turn is the turn that is taken. -/
theorem step_of_turns {s : State} {a : Agent} {ts : List Agent} (h : s.turns = a :: ts) :
    step s = agentTurn a (s.setTurns ts) := by
  unfold step State.takeTurn State.nextTurn; rw [h]; rfl

/-- With no turn named and none to follow, the agent that is due moves. -/
theorem step_of_no_turns {s : State} (h : s.turns = []) (ha : s.turnsAfter = .due) :
    step s = agentTurn s.defaultAgent s := by
  obtain ⟨_, _, h', _⟩ | ⟨_, _, hn, ht⟩ | ⟨_, _, _, h', _⟩ | ⟨_, _, h', _⟩ := nextTurn_cases s
  · rw [h] at h'; cases h'
  · unfold step; rw [hn, ht]
  · rw [ha] at h'; cases h'
  · rw [ha] at h'; cases h'

/-- With no turn left, a cycle starts over. -/
theorem step_of_cycle {s : State} {a : Agent} {as : List Agent} (h : s.turns = [])
    (ha : s.turnsAfter = .cycle a as) : step s = agentTurn a (s.setTurns as) := by
  unfold step State.takeTurn State.nextTurn; rw [h, ha]; cases s; cases ha; rfl

/-- With no turn left, the free sequence names the agent and moves on. -/
theorem step_of_free {s : State} {n : Nat} (h : s.turns = []) (ha : s.turnsAfter = .free n) :
    step s = agentTurn (Config.freeTurn n) (s.setTurnsAfter (.free (n + 1))) := by
  unfold step State.takeTurn State.nextTurn; rw [h, ha]; cases s; cases h; rfl

/-- What the host's turn can answer. -/
theorem hostTurn_eq_next {s u : State} (h : hostTurn s = .next u) :
    (u = s ∧ (s.phase = .idle → s.requests = [])) ∨
    (s.phase = .idle ∧ ∃ r rest i, s.requests = r :: rest ∧ decodeRequest r = .ok i ∧
      exec i (s.setRequests rest) = .next u) := by
  unfold hostTurn State.nextRequest at h
  split at h
  · next hp =>
    cases hr : s.requests with
    | nil =>
      rw [hr] at h
      exact .inl ⟨(Host.Outcome.next.inj h).symm, fun _ => rfl⟩
    | cons r rest =>
      rw [hr] at h
      dsimp only at h
      cases hd : decodeRequest r with
      | error e => rw [hd] at h; cases h
      | ok i => rw [hd] at h; exact .inr ⟨hp, r, rest, i, rfl, hd, h⟩
  · next hp => exact .inl ⟨(Host.Outcome.next.inj h).symm, fun h' => absurd h' hp⟩

/-- In IDLE the host issues the command its next request decodes to. -/
theorem hostTurn_issues {s : State} {r : PortRequest} {rest : List PortRequest} {i : Instr}
    (hp : s.phase = .idle) (hr : s.requests = r :: rest) (hd : decodeRequest r = .ok i) :
    hostTurn s = exec i (s.setRequests rest) := by
  unfold hostTurn State.nextRequest
  rw [if_pos hp, hr]
  dsimp only
  rw [hd]

/-- Outside IDLE the host's turn does nothing. -/
theorem hostTurn_waits {s : State} (h : s.phase ≠ .idle) : hostTurn s = .next s := by
  unfold hostTurn; rw [if_neg h]

/-- No agent's turn changes whose turns come next. -/
theorem agentTurn_turns {a : Agent} {s t : State} (h : agentTurn a s = .next t) :
    t.turns = s.turns ∧ t.turnsAfter = s.turnsAfter := by
  cases a with
  | host =>
    obtain ⟨rfl, _⟩ | ⟨_, _, _, _, _, _, h⟩ := hostTurn_eq_next h
    · exact ⟨rfl, rfl⟩
    · obtain ⟨_, _, _, _, rfl, _⟩ | ⟨rfl, _⟩ := (exec_eq_next h).2 <;> exact ⟨rfl, rfl⟩
  | sequencer =>
    rw [← Host.Outcome.next.inj h]
    obtain ⟨_, e⟩ | ⟨_, _, e⟩ | ⟨_, _, e⟩ | ⟨_, e⟩ | ⟨_, e⟩ := sequencerStep_cases s <;> rw [e]
    · obtain ⟨_, e⟩ | ⟨_, e⟩ := txByteStep_cases s <;> rw [e] <;> exact ⟨rfl, rfl⟩
    · exact ⟨rfl, rfl⟩
    · obtain ⟨_, e⟩ | ⟨_, _, _, e⟩ | ⟨_, _, e⟩ := settledStep_cases s <;> rw [e] <;> exact ⟨rfl, rfl⟩
    · obtain ⟨_, _, _, e⟩ | ⟨_, _, e⟩ | ⟨_, _, _, e⟩ | ⟨_, _, _, e⟩ := drainAttempt_cases s <;>
        rw [e] <;> exact ⟨rfl, rfl⟩
    · exact ⟨rfl, rfl⟩
  | timebase =>
    rw [← Host.Outcome.next.inj h]
    obtain ⟨_, _, e⟩ | e := tickStep_cases s <;> rw [e] <;> exact ⟨rfl, rfl⟩
  | peripheral b =>
    rw [← Host.Outcome.next.inj h]
    obtain ⟨e, _⟩ | ⟨e, _⟩ := rxByte_cases s b <;> rw [e] <;> exact ⟨rfl, rfl⟩
  | reset => rw [← Host.Outcome.next.inj h]; exact ⟨rfl, rfl⟩

/-- A step is one turn of one agent: everything it can do (R22). The agent acts on `s` with other turns to
come; that `ts` and `ta` are `takeTurn`'s is said apart, so that a proof need not look into them. -/
theorem step_eq_next {s t : State} (h : step s = .next t) :
    ∃ ts ta u, u = { s with turns := ts, turnsAfter := ta } ∧ s.takeTurn = u ∧
      ((s.nextTurn.1 = .reset ∧ t = u.resetBlock) ∨
       (s.nextTurn.1 = .timebase ∧ t = tickStep u) ∨
       (∃ b, s.nextTurn.1 = .peripheral b ∧ t = u.rxByte b) ∨
       (s.nextTurn.1 = .sequencer ∧ t = sequencerStep u) ∨
       (s.nextTurn.1 = .host ∧ hostTurn u = .next t)) := by
  refine ⟨s.nextTurn.2.1, s.nextTurn.2.2, s.takeTurn, rfl, rfl, ?_⟩
  unfold step at h
  match hn : s.nextTurn.1 with
  | .host => rw [hn] at h; exact .inr (.inr (.inr (.inr ⟨rfl, h⟩)))
  | .sequencer =>
    rw [hn] at h; exact .inr (.inr (.inr (.inl ⟨rfl, (Host.Outcome.next.inj h).symm⟩)))
  | .timebase => rw [hn] at h; exact .inr (.inl ⟨rfl, (Host.Outcome.next.inj h).symm⟩)
  | .peripheral b =>
    rw [hn] at h; exact .inr (.inr (.inl ⟨b, rfl, (Host.Outcome.next.inj h).symm⟩))
  | .reset => rw [hn] at h; exact .inl ⟨rfl, (Host.Outcome.next.inj h).symm⟩

end Sys2Proof.Machine
end

