-- ==== Sys2Proof/Laws/Run.lean ====
section
/-! SUPPORT. Runs of several steps: one step more, and one run after another. -/

namespace Sys2Proof.Machine

@[simp] theorem run_zero (s : State) : run 0 s = .next s := rfl

theorem run_succ_of_next {s t : State} {k : Nat} (h : step s = .next t) :
    run (k + 1) s = run k t := by
  unfold run; rw [h]; cases k <;> rfl

theorem run_succ_of_refused {s : State} {r : Refusal} {k : Nat} (h : step s = .refused r) :
    run (k + 1) s = .refused r := by
  unfold run; rw [h]

theorem run_one (s : State) : run 1 s = step s := by
  unfold run
  cases step s <;> rfl

/-- A run that comes to a next state can be followed by another. -/
theorem run_add {s t : State} {k m : Nat} (h : run k s = .next t) : run (k + m) s = run m t := by
  induction k generalizing s with
  | zero => cases h; rw [Nat.zero_add]
  | succ k ih =>
    rw [Nat.add_right_comm]
    cases hs : step s with
    | next u => rw [run_succ_of_next hs] at h ⊢; exact ih h
    | fault f => cases f
    | refused r => rw [run_succ_of_refused hs] at h; cases h

/-- Induction over the turns of a run. `I` holds before the first turn, and each turn keeps it; what the
run has come to before that turn is at hand. -/
theorem run_induction {I : List Agent → State → Prop} {as : List Agent} {u v : State}
    (start : I [] { u with turns := as })
    (turn : ∀ before a rest s t, as = before ++ a :: rest →
      run before.length { u with turns := as } = .next s → s.turns = a :: rest →
      agentTurn a (s.setTurns rest) = .next t → I before s → I (before ++ [a]) t)
    (h : run as.length { u with turns := as } = .next v) : I as v := by
  have upTo : ∀ (rest before : List Agent) (s : State), as = before ++ rest →
      run before.length { u with turns := as } = .next s → s.turns = rest → I before s →
      run rest.length s = .next v → I as v := by
    intro rest
    induction rest with
    | nil =>
      intro before s has _ _ hI hv
      cases hv
      rw [has, List.append_nil]
      exact hI
    | cons a rest ih =>
      intro before s has hs hts hI hv
      have e := step_of_turns hts
      cases ht : agentTurn a (s.setTurns rest) with
      | next t =>
        rw [ht] at e
        rw [List.length_cons, run_succ_of_next e] at hv
        refine ih (before ++ [a]) t (by rw [has]; simp) ?_ (agentTurn_turns ht).1
          (turn before a rest s t has hs hts ht hI) hv
        rw [List.length_append, run_add hs, List.length_singleton, run_one, e]
      | fault f => cases f
      | refused r =>
        rw [ht] at e
        rw [List.length_cons, run_succ_of_refused e] at hv
        cases hv
  exact upTo as [] { u with turns := as } rfl rfl rfl start h

/-- A turn of the sequencer that leaves seven or fewer bytes sent. -/
theorem step_txByte {s : State} {n : Nat} {ts : List Agent} (hp : s.phase = .tx)
    (ht : s.turns = .sequencer :: ts) (hn : n < 7) (hi : s.txIdx = BitVec.ofNat 3 n) :
    step s = .next { s with
      txLog := s.txLog ++ [(encodeTx s.txOp s.txLo s.txHi).getD n 0#8]
      txIdx := BitVec.ofNat 3 (n + 1), turns := ts } := by
  rw [step_of_turns ht]
  have hne : (s.setTurns ts).txIdx ≠ 7#3 := by
    show s.txIdx ≠ 7#3
    rw [hi]
    interval_cases n <;> decide
  refine congrArg Host.Outcome.next ?_
  rw [sequencerStep_tx (s := s.setTurns ts) hp, txByteStep_more hne]
  unfold State.nextTxByte
  dsimp only [State.setTurns]
  rw [hi]
  interval_cases n <;> rfl

/-- Eight turns of the sequencer send one frame and load the timer (R94, R135). -/
theorem run_frame {s : State} {ts : List Agent} (hp : s.phase = .tx) (hi : s.txIdx = 0#3)
    (ht : s.turns = List.replicate 8 .sequencer ++ ts) :
    run 8 s = .next { s with
      txLog := s.txLog ++ encodeTx s.txOp s.txLo s.txHi
      settleMs := settleDelay s.txOp, phase := .settle, turns := ts } := by
  have upTo : ∀ n ≤ 7, run n s = .next { s with
      txLog := s.txLog ++ (encodeTx s.txOp s.txLo s.txHi).take n
      txIdx := BitVec.ofNat 3 n, turns := List.replicate (8 - n) .sequencer ++ ts } := by
    intro n hn
    induction n with
    | zero =>
      cases s
      simp_all
    | succ n ih =>
      have e := step_txByte (n := n) (ts := List.replicate (8 - (n + 1)) .sequencer ++ ts)
        (s := { s with
          txLog := s.txLog ++ (encodeTx s.txOp s.txLo s.txHi).take n
          txIdx := BitVec.ofNat 3 n, turns := List.replicate (8 - n) .sequencer ++ ts })
        hp (by dsimp only; rw [show 8 - n = (8 - (n + 1)) + 1 by omega]; rfl) (by omega) rfl
      rw [run_add (ih (by omega)), run_one, e]
      dsimp only
      rw [List.append_assoc]
      clear ih e
      have hn' : n < 7 := hn
      interval_cases n <;> rfl
  rw [run_add (m := 1) (upTo 7 (by decide)), run_one, step_of_turns rfl]
  refine congrArg Host.Outcome.next ((sequencerStep_tx (by exact hp)).trans ?_)
  rw [txByteStep_last rfl]
  unfold State.nextTxByte
  dsimp only [State.setTurns]
  rw [List.append_assoc, hi]
  rfl

/-- Milliseconds that pass while the settle timer runs are counted off it. -/
theorem run_ticks {n : Nat} {s : State} {ts : List Agent} (hp : s.phase = .settle)
    (ht : s.turns = List.replicate n .timebase ++ ts) (hn : n ≤ s.settleMs.toNat) :
    run n s = .next { s with settleMs := BitVec.ofNat 10 (s.settleMs.toNat - n), turns := ts } := by
  induction n generalizing s with
  | zero =>
    cases s
    simp at ht
    simp [ht]
  | succ n ih =>
    have hm : s.settleMs ≠ 0#10 := by intro h; rw [h] at hn; exact absurd hn (by simp)
    have e : step s = .next
        { s with settleMs := s.settleMs - 1#10, turns := List.replicate n .timebase ++ ts } := by
      rw [step_of_turns (a := .timebase) (ts := List.replicate n .timebase ++ ts) (by rw [ht]; rfl)]
      exact congrArg Host.Outcome.next
        (tickStep_counts (s := s.setTurns (List.replicate n .timebase ++ ts)) hp hm)
    have h1 : (s.settleMs - 1#10).toNat = s.settleMs.toNat - 1 := by bv_omega
    rw [run_succ_of_next e,
      ih (s := { s with
        settleMs := s.settleMs - 1#10, turns := List.replicate n .timebase ++ ts })
        hp rfl (by dsimp only; omega)]
    dsimp only
    rw [h1, Nat.sub_sub, Nat.add_comm 1]

/-- A whole settle delay runs the timer out. -/
theorem run_delay {n : Nat} {s : State} {ts : List Agent} (hp : s.phase = .settle)
    (hn : s.settleMs.toNat = n) (ht : s.turns = List.replicate n .timebase ++ ts) :
    run n s = .next { s with settleMs := 0#10, turns := ts } := by
  rw [run_ticks hp ht (Nat.le_of_eq hn.symm), hn, Nat.sub_self]

/-- One step more of any machine's run. -/
theorem core_run_succ_of_next {M : Host.Core} {k : Nat} {s t : M.State} (h : M.step s = .next t) :
    M.run (k + 1) s = M.run k t := by
  simp [Host.Core.run, h]

theorem core_run_succ_of_refused {M : Host.Core} {k : Nat} {s : M.State} {r : M.Refusal}
    (h : M.step s = .refused r) : M.run (k + 1) s = .refused r := by
  simp [Host.Core.run, h]

/-- The host's run of the machine is `run`. -/
theorem core_run_eq_run (k : Nat) (s : State) : Sys2Proof.core.run k s = run k s := by
  induction k generalizing s with
  | zero => rfl
  | succ k ih =>
    cases hs : step s with
    | next t =>
      rw [run_succ_of_next hs, ← ih t]
      exact core_run_succ_of_next (M := Sys2Proof.core) hs
    | fault f => cases f
    | refused r =>
      rw [run_succ_of_refused hs]
      exact core_run_succ_of_refused (M := Sys2Proof.core) hs

end Sys2Proof.Machine
end

