-- ==== Sys2Proof/Tests/Slice0.lean ====
section
/-! SUPPORT. Our own tests. Expected values come from spec/95_test_vectors.md (V numbers) and from
spec/opcode_table.json. Then, for each statement with hypotheses, a witness: concrete values that meet all
of them together. -/

namespace Sys2Proof.Tests

open Sys2Proof Sys2Proof.Machine Sys2Proof.Claims

/-- The start of the vectors of part 2 and of the programs of part 9, with CURDEV = USB. -/
def quiet : State :=
  { phase := .idle, txIdx := 0#3, mstep := 0#1, cmdSel := .stop, cmdArg := 0#16
    txOp := 0#8, txLo := 0#8, txHi := 0#8, settleMs := 0#10
    lastValid := false, lastOp := 0#8, lastDw := 0#16
    resValid := false, resOp := 0#8, resDw := 0#16, resVal := 0#32
    curdev := .usb, cureq := .normal, faultInit := false, rxFifo := [], txLog := []
    params := { roundTie := .up, deviceCode := standardDeviceCode, initDevice := .usb
                initEq := .normal, rxCapacity := none }
    requests := [], turns := [], turnsAfter := .due, resets := 0 }

/-- `quiet` of a build that rounds a half to even. -/
def quietEven : State := { quiet with params := { quiet.params with roundTie := .even } }

/-- The frame that an `issue` loads. -/
def loaded (i : Instr) (s : State) : Option (List Byte) :=
  match exec i s with
  | .next t => if t.phase = .tx then some (encodeTx t.txOp t.txLo t.txHi) else none
  | .fault f => nomatch f
  | .refused _ => none

/-- One field of the state after one step. -/
def after {α : Type} (s : State) (f : State → α) : Option α :=
  match step s with
  | .next t => some (f t)
  | .fault e => nomatch e
  | .refused _ => none

/-! ### Well-formedness -/

theorem test_wellFormed_refuses_no_device :
    [Instr.devsel 5, .devsel 6, .devsel 7, .init 5, .init 0xFFFF, .fcnt 6].all
      (fun i => i.wellFormed = false) := by decide

theorem test_wellFormed_admits :
    [Instr.devsel 0, .devsel 4, .devsel 0xFFF8, .init 1, .fcnt 3, .fcntc 7, .eqset 0xFFFF,
     .volset 0x8000, .next 0xBEEF].all (fun i => i.wellFormed) := by decide

/-! ### Decoding: the words of spec/opcode_table.json, operands as in V10 -/

theorem test_decode_playback :
    decodeTableWord 64 0x7EFF0601000000EF = some (.next 0) ∧
    decodeTableWord 64 0x7EFF0602000000EF = some (.prev 0) ∧
    decodeTableWord 64 0x7EFF0603002C01EF = some (.playidx 300) ∧
    decodeTableWord 64 0x7EFF060D000000EF = some (.play 0) ∧
    decodeTableWord 64 0x7EFF060E000000EF = some (.pause 0) ∧
    decodeTableWord 64 0x7EFF060F000302EF = some (.playft 0x0203) ∧
    decodeTableWord 64 0x7EFF0612000201EF = some (.playfold 0x0102) ∧
    decodeTableWord 64 0x7EFF0616000000EF = some (.stop 0) := by decide

theorem test_decode_volume_equalizer :
    decodeTableWord 64 0x7EFF0604000000EF = some (.volup 0) ∧
    decodeTableWord 64 0x7EFF0605000000EF = some (.voldn 0) ∧
    decodeTableWord 64 0x7EFF0606001E00EF = some (.volset 100) ∧
    decodeTableWord 64 0x7EFF0606001F00EF = none ∧
    decodeTableWord 64 0x7EFF0607000500EF = some (.eqset 5) ∧
    decodeTableWord 64 0x7EFF0607000600EF = none := by decide

theorem test_decode_play_modes :
    decodeTableWord 64 0x7EFF0608000000EF = some (.repcur 0) ∧
    decodeTableWord 64 0x7EFF0611000100EF = some (.loopall 1) ∧
    decodeTableWord 64 0x7EFF0617000700EF = some (.loopfold 7) ∧
    decodeTableWord 64 0x7EFF0618000000EF = some (.shuffle 0) ∧
    decodeTableWord 64 0x7EFF0619000000EF = some (.loopone 1) ∧
    decodeTableWord 64 0x7EFF061A000100EF = some (.dac 0) := by decide

theorem test_decode_device_power :
    decodeTableWord 64 0x7EFF0609000100EF = some (.devsel 0) ∧
    decodeTableWord 64 0x7EFF0609000500EF = some (.devsel 4) ∧
    decodeTableWord 64 0x7EFF0609000000EF = none ∧
    decodeTableWord 64 0x7EFF060A000000EF = some (.lpon 0) ∧
    decodeTableWord 64 0x7EFF060C000000EF = some (.chiprst 0) := by decide

theorem test_decode_queries :
    decodeTableWord 64 0x7EFF0642000000EF = some (.qstate 0) ∧
    decodeTableWord 64 0x7EFF0643000000EF = some (.qvol 0) ∧
    decodeTableWord 64 0x7EFF0644000000EF = some (.qeq 0) ∧
    decodeTableWord 64 0x7EFF0647000000EF = some (.qfusb 0) ∧
    decodeTableWord 64 0x7EFF0648000000EF = some (.qfsd 0) ∧
    decodeTableWord 64 0x7EFF0649000000EF = some (.qfflash 0) ∧
    decodeTableWord 64 0x7EFF064E001001EF = some (.qffold 0x0110) := by decide

/-- The pseudo-commands own no table word (R113); these are their port requests (log 8). -/
theorem test_decode_pseudo_requests :
    decodeRequest ⟨0xF0, 0⟩ = .ok (.lpoff 0) ∧
    decodeRequest ⟨0xF1, 1⟩ = .ok (.init 1) ∧
    decodeRequest ⟨0xF2, 4⟩ = .ok (.fcnt 4) ∧
    decodeRequest ⟨0xF3, 0xBEEF⟩ = .ok (.fcntc 0xBEEF) := by decide

theorem test_decode_rejects_by_name :
    decodeFrame standardDeviceCode [0x7E, 0xFF, 0x06, 0x0D, 0, 0, 0] = .error .wrongLength ∧
    decodeFrame standardDeviceCode [0x7D, 0xFF, 0x06, 0x0D, 0, 0, 0, 0xEF] = .error .wrongStart ∧
    decodeFrame standardDeviceCode [0x7E, 0xFE, 0x06, 0x0D, 0, 0, 0, 0xEF] = .error .wrongVersion ∧
    decodeFrame standardDeviceCode [0x7E, 0xFF, 0x07, 0x0D, 0, 0, 0, 0xEF] = .error .wrongLengthByte ∧
    decodeFrame standardDeviceCode [0x7E, 0xFF, 0x06, 0x0B, 0, 0, 0, 0xEF] = .error .unknownOpcode ∧
    decodeFrame standardDeviceCode [0x7E, 0xFF, 0x06, 0x0D, 1, 0, 0, 0xEF] = .error .wrongFeedback ∧
    decodeFrame standardDeviceCode [0x7E, 0xFF, 0x06, 0x0D, 0, 1, 0, 0xEF] = .error .dataNotSent ∧
    decodeFrame standardDeviceCode [0x7E, 0xFF, 0x06, 0x09, 0, 6, 0, 0xEF] =
      .error .unknownDeviceByte ∧
    decodeFrame standardDeviceCode [0x7E, 0xFF, 0x06, 0x0D, 0, 0, 0, 0xEE] = .error .wrongEnd ∧
    decodeRequest ⟨0x0B, 0⟩ = .error .unknownSelector ∧
    decodeRequest ⟨0x09, 5⟩ = .error .unknownDevice := by decide

/-! ### What issuing sends: V2, V3, V10 -/

theorem test_loads_playback :
    loaded (.next 0xBEEF) quiet = some [0x7E, 0xFF, 0x06, 0x01, 0, 0, 0, 0xEF] ∧
    loaded (.prev 0) quiet = some [0x7E, 0xFF, 0x06, 0x02, 0, 0, 0, 0xEF] ∧
    loaded (.playidx 256) quiet = some [0x7E, 0xFF, 0x06, 0x03, 0, 0, 1, 0xEF] ∧
    loaded (.play 0) quiet = some [0x7E, 0xFF, 0x06, 0x0D, 0, 0, 0, 0xEF] ∧
    loaded (.pause 0) quiet = some [0x7E, 0xFF, 0x06, 0x0E, 0, 0, 0, 0xEF] ∧
    loaded (.playft 0x0203) quiet = some [0x7E, 0xFF, 0x06, 0x0F, 0, 3, 2, 0xEF] ∧
    loaded (.playfold 0x0102) quiet = some [0x7E, 0xFF, 0x06, 0x12, 0, 2, 1, 0xEF] ∧
    loaded (.stop 0) quiet = some [0x7E, 0xFF, 0x06, 0x16, 0, 0, 0, 0xEF] := by decide

theorem test_loads_volume :
    loaded (.volup 0) quiet = some [0x7E, 0xFF, 0x06, 0x04, 0, 0, 0, 0xEF] ∧
    loaded (.voldn 0) quiet = some [0x7E, 0xFF, 0x06, 0x05, 0, 0, 0, 0xEF] ∧
    loaded (.volset 0x8000) quiet = some [0x7E, 0xFF, 0x06, 0x06, 0, 0, 0, 0xEF] ∧
    loaded (.volset 0x7FFF) quiet = some [0x7E, 0xFF, 0x06, 0x06, 0, 0x1E, 0, 0xEF] ∧
    loaded (.volset 15) quiet = some [0x7E, 0xFF, 0x06, 0x06, 0, 5, 0, 0xEF] ∧
    loaded (.volset 15) quietEven = some [0x7E, 0xFF, 0x06, 0x06, 0, 4, 0, 0xEF] := by decide

theorem test_loads_equalizer :
    loaded (.eqset 3) quiet = some [0x7E, 0xFF, 0x06, 0x07, 0, 3, 0, 0xEF] ∧
    loaded (.eqset 6) quiet = some [0x7E, 0xFF, 0x06, 0x07, 0, 0, 0, 0xEF] ∧
    loaded (.eqset 0xFFFF) quiet = some [0x7E, 0xFF, 0x06, 0x07, 0, 0, 0, 0xEF] := by decide

theorem test_loads_play_modes :
    loaded (.repcur 0) quiet = some [0x7E, 0xFF, 0x06, 0x08, 0, 0, 0, 0xEF] ∧
    loaded (.loopall 0xFFFF) quiet = some [0x7E, 0xFF, 0x06, 0x11, 0, 1, 0, 0xEF] ∧
    loaded (.loopall 2) quiet = some [0x7E, 0xFF, 0x06, 0x11, 0, 0, 0, 0xEF] ∧
    loaded (.loopfold 7) quiet = some [0x7E, 0xFF, 0x06, 0x17, 0, 7, 0, 0xEF] ∧
    loaded (.shuffle 0) quiet = some [0x7E, 0xFF, 0x06, 0x18, 0, 0, 0, 0xEF] ∧
    loaded (.loopone 1) quiet = some [0x7E, 0xFF, 0x06, 0x19, 0, 0, 0, 0xEF] ∧
    loaded (.loopone 0) quiet = some [0x7E, 0xFF, 0x06, 0x19, 0, 1, 0, 0xEF] ∧
    loaded (.dac 1) quiet = some [0x7E, 0xFF, 0x06, 0x1A, 0, 0, 0, 0xEF] ∧
    loaded (.dac 0) quiet = some [0x7E, 0xFF, 0x06, 0x1A, 0, 1, 0, 0xEF] := by decide

theorem test_loads_device_power :
    loaded (.devsel 1) quiet = some [0x7E, 0xFF, 0x06, 0x09, 0, 2, 0, 0xEF] ∧
    loaded (.devsel 4) quiet = some [0x7E, 0xFF, 0x06, 0x09, 0, 5, 0, 0xEF] ∧
    loaded (.lpon 0) quiet = some [0x7E, 0xFF, 0x06, 0x0A, 0, 0, 0, 0xEF] ∧
    loaded (.lpoff 0) { quiet with curdev := .flash } =
      some [0x7E, 0xFF, 0x06, 0x09, 0, 5, 0, 0xEF] ∧
    loaded (.chiprst 0) quiet = some [0x7E, 0xFF, 0x06, 0x0C, 0, 0, 0, 0xEF] ∧
    loaded (.init 1) quiet = some [0x7E, 0xFF, 0x06, 0x09, 0, 2, 0, 0xEF] := by decide

theorem test_loads_queries :
    loaded (.qstate 0) quiet = some [0x7E, 0xFF, 0x06, 0x42, 0, 0, 0, 0xEF] ∧
    loaded (.qvol 0) quiet = some [0x7E, 0xFF, 0x06, 0x43, 0, 0, 0, 0xEF] ∧
    loaded (.qeq 0) quiet = some [0x7E, 0xFF, 0x06, 0x44, 0, 0, 0, 0xEF] ∧
    loaded (.qfusb 0) quiet = some [0x7E, 0xFF, 0x06, 0x47, 0, 0, 0, 0xEF] ∧
    loaded (.qfsd 0) quiet = some [0x7E, 0xFF, 0x06, 0x48, 0, 0, 0, 0xEF] ∧
    loaded (.qfflash 0) quiet = some [0x7E, 0xFF, 0x06, 0x49, 0, 0, 0, 0xEF] ∧
    loaded (.qffold 0x0110) quiet = some [0x7E, 0xFF, 0x06, 0x4E, 0, 0x10, 1, 0xEF] := by decide

theorem test_loads_file_counts :
    loaded (.fcnt 0) quiet = some [0x7E, 0xFF, 0x06, 0x47, 0, 0, 0, 0xEF] ∧
    loaded (.fcnt 2) quiet = none ∧ loaded (.fcnt 3) quiet = none ∧
    loaded (.fcnt 4) quiet = some [0x7E, 0xFF, 0x06, 0x49, 0, 0, 0, 0xEF] ∧
    loaded (.fcntc 0) { quiet with curdev := .sd } =
      some [0x7E, 0xFF, 0x06, 0x48, 0, 0, 0, 0xEF] ∧
    loaded (.fcntc 0) { quiet with curdev := .aux } = none := by decide

/-! ### The codec and the arithmetic: V11, V12, V20 to V22, V30 to V33, V50 -/

theorem test_encode_escapes_nothing :
    encodeTx 0x7E 0xEF 0x7E = [0x7E, 0xFF, 0x06, 0x7E, 0x00, 0xEF, 0x7E, 0xEF] := by decide

theorem test_decodeRx_accepts :
    decodeRx [0x7E, 0xFF, 0x06, 0x42, 0x01, 0x02, 0x00, 0xAA, 0x55, 0xEF] = some (0x42, 0x0200) ∧
    decodeRx [0x7E, 0xFF, 0x06, 0x43, 0x00, 0x2C, 0x01, 0x00, 0x00, 0xEF] = some (0x43, 0x2C01) ∧
    decodeRx [0x7E, 0xFF, 0x06, 0x00, 0x00, 0x00, 0x00, 0x00, 0x00, 0xEF] = some (0x00, 0x0000) ∧
    decodeRx [0x7E, 0xFF, 0x06, 0xEF, 0x7E, 0xFF, 0x06, 0x42, 0x00, 0xEF] = some (0xEF, 0xFF06) := by
  decide

theorem test_decodeRx_rejects :
    [[], [0x7E], [0x7E, 0xFF, 0x06, 0x42, 0x00, 0x02, 0x00, 0x00, 0x00],
     [0x7E, 0xFF, 0x06, 0x42, 0x00, 0x02, 0x00, 0x00, 0x00, 0xEF, 0x00],
     [0x7E, 0xFF, 0x06, 0x03, 0x00, 0x2C, 0x01, 0xEF],
     [0x7D, 0xFF, 0x06, 0x42, 0x00, 0x02, 0x00, 0x00, 0x00, 0xEF],
     [0x7E, 0xFE, 0x06, 0x42, 0x00, 0x02, 0x00, 0x00, 0x00, 0xEF],
     [0x7E, 0xFF, 0x07, 0x42, 0x00, 0x02, 0x00, 0x00, 0x00, 0xEF],
     [0x7E, 0xFF, 0x06, 0x42, 0x00, 0x02, 0x00, 0x00, 0x00, 0xEE],
     [0x00, 0xEF, 0x7E, 0xFF, 0x06, 0x42, 0x00, 0x02, 0x01, 0x00]].all
      (fun b => decodeRx b = none) := by decide

theorem test_units_ties :
    [5, 15, 25, 35, 45, 55, 65, 75, 85, 95].map (units .up) =
      [2, 5, 8, 11, 14, 17, 20, 23, 26, 29] ∧
    [5, 15, 25, 35, 45, 55, 65, 75, 85, 95].map (units .even) =
      [2, 4, 8, 10, 14, 16, 20, 22, 26, 28] := by decide

theorem test_units_row :
    [40, 41, 42, 43, 44, 45, 46, 47, 48, 49].map (units .up) =
      [12, 12, 13, 13, 13, 14, 14, 14, 14, 15] := by decide

theorem test_percent :
    [0, 1, 2, 10, 19, 29, 30, 31, 255, 256, 65535].map percent =
      [0, 3, 7, 33, 63, 97, 100, 103, 850, 853, 218450] := by decide

theorem test_coerce :
    [-32768, -1, 0, 1, 5, 6, 255, 32767].map coerce = [0, 0, 0, 1, 5, 0, 0, 0] := by decide

theorem test_settleDelay :
    [0x00, 0x09, 0x0A, 0x0B, 0x0C, 0x42, 0x43, 0x45, 0x47, 0x4A, 0x4E, 0x4F, 0xFF].map settleDelay =
      [30, 200, 30, 30, 1000, 200, 200, 30, 200, 30, 200, 30, 30] := by decide

/-! ### Single steps: V7, V41 to V46, V55, V60, V64, P3 -/

/-- The two answers of V7. -/
def answer0 : List Byte := [0x7E, 0xFF, 0x06, 0x42, 0x00, 0x02, 0x00, 0x00, 0x00, 0xEF]
def answer1 : List Byte := [0x7E, 0xFF, 0x06, 0x42, 0x00, 0x02, 0x01, 0x00, 0x00, 0xEF]

/-- A query at the entry of its drain. -/
def draining (sel : Sel) (rx : List Byte) : State :=
  { quiet with phase := .drain, cmdSel := sel, txOp := 0x42#8, rxFifo := rx }

/-- V7, first attempt. -/
theorem test_drain_first_attempt :
    after (draining .qstate (answer0 ++ answer1)) (fun t => (t.phase, t.lastDw, t.rxFifo)) =
      some (.drain, 0x0200, answer1) := by decide

/-- V43: the bad chunk is gone, the frame behind it stays. -/
theorem test_drain_bad_chunk :
    after (draining .qstate ((0x7D : Byte) :: answer0.tail ++ answer1))
      (fun t => (t.phase, t.resValid, t.rxFifo)) = some (.idle, false, answer1) := by decide

/-- V45 and R266: the last attempt of a drain with an answer, for a raw query and for `QVOL`. -/
theorem test_drain_completes :
    after { draining .qstate [] with lastValid := true, lastOp := 0x42, lastDw := 0x0202 }
      (fun t => (t.phase, t.resVal, t.isPaused, t.isPlaying)) = some (.idle, 514, true, false) ∧
    after { draining .qvol [] with lastValid := true, lastOp := 0x43, lastDw := 15 }
      (fun t => (t.resDw, t.resVal)) = some (15, 50) := by decide

/-- P5, last step. -/
theorem test_init_failure :
    after { draining .init [] with mstep := 1 }
      (fun t => (t.phase, t.faultInit, t.mstep, t.ready)) = some (.failed, true, 0, false) := by decide

/-- V60: the eighth `tx_byte` of `PLAY`. -/
theorem test_last_tx_byte :
    after { quiet with phase := .tx, txOp := 0x0D, txIdx := 7 }
      (fun t => (t.phase, t.txIdx, t.settleMs, t.txLog)) = some (.settle, 0, 30, [0xEF]) := by decide

/-- V60: `tick` counts in SETTLE only. -/
theorem test_tick :
    after { quiet with phase := .settle, settleMs := 30, turns := [.timebase] }
      (fun t => t.settleMs) = some 29 ∧
    after { quiet with phase := .tx, settleMs := 30, turns := [.timebase] }
      (fun t => t.settleMs) = some 30 := by decide

/-- V64: reset in TX keeps the bytes sent and those received. -/
theorem test_reset_in_tx :
    after { quiet with phase := .tx, txIdx := 3, txLog := [1, 2, 3], rxFifo := [4], curdev := .aux
                       turns := [.reset] }
      (fun t => (t.phase, t.txIdx, t.curdev, t.txLog, t.rxFifo)) =
        some (.idle, 0, .usb, [1, 2, 3], [4]) := by decide

/-- Listed turns come first; then the cycle starts, and starts over. -/
theorem test_turns_cycle :
    let s := { quiet with turns := [.reset], turnsAfter := .cycle .timebase [.peripheral 1] }
    s.nextTurn.1 = .reset ∧ s.takeTurn.nextTurn.1 = .timebase ∧
    s.takeTurn.takeTurn.nextTurn.1 = .peripheral 1 ∧
    s.takeTurn.takeTurn.takeTurn.nextTurn.1 = .timebase := by decide

/-- A word placed at reset is the command the very next step issues. -/
theorem test_first_word_runs :
    after (State.reset.withFetchWord 64 0x7EFF0603002C01EF)
      (fun t => (t.phase, t.cmdSel, t.cmdArg, t.txOp, t.txLo, t.txHi)) =
        some (.tx, .playidx, 300, 0x03, 0x2C, 0x01) := by decide

/-! ### Witnesses: `witness_<Name>` is for `Obligations.<Name>` -/

/-- A command in TX, one of the shapes the statements about steps ask for. -/
def sending (sel : Sel) (op : Byte) : State :=
  { quiet with phase := .tx, cmdSel := sel, txOp := op }

/-- A command in SETTLE. -/
def settling (sel : Sel) (op : Byte) (ms : BitVec 10) : State :=
  { quiet with phase := .settle, cmdSel := sel, txOp := op, settleMs := ms }

/-- A build whose receive buffer holds four bytes. -/
def bounded (rx : List Byte) : State :=
  { quiet with rxFifo := rx, params := { quiet.params with rxCapacity := some 4 } }

/-- Each clause, at the ends of the range and at a half. -/
theorem witness_UnitsRoundsTheScaledPercentage :
    ((0 : Nat) : Int) = clamp (-1) 0 100 ∧ ((100 : Nat) : Int) = clamp 101 0 100 ∧ 3 * 100 % 10 < 5 ∧
    ((2 : Nat) : Int) = clamp 2 0 100 ∧ 5 < 3 * 2 % 10 ∧
    ((95 : Nat) : Int) = clamp 95 0 100 ∧ 3 * 95 % 10 = 5 := by decide

theorem witness_UnitsObeysItsLaws :
    (-1 : Int) < 0 ∧ (100 : Int) < 101 ∧ (0 : Int) ≤ 100 ∧ (100 : Int) ≤ 100 ∧ (95 : Int) % 10 = 5 := by
  decide

theorem witness_CoerceCollapsesToNormal :
    ((0 : Int) ≤ 5 ∧ (5 : Int) ≤ 5) ∧ ((-1 : Int) < 0 ∨ 5 < (-1 : Int)) ∧
    ((6 : Int) < 0 ∨ 5 < (6 : Int)) := by decide

theorem witness_RequestRoundTrip :
    (Instr.devsel 4).wellFormed = true ∧ (Instr.playidx 0xFFFF).wellFormed = true := by decide

theorem witness_UnknownRequestsAreRefused :
    quiet.phase = .idle ∧ (∀ sel : Sel, sel.code ≠ (0x00 : Byte)) ∧
    (∀ sel : Sel, sel.code ≠ (0xF4 : Byte)) ∧
    Sel.devsel.code = 0x09 ∧ 5 ≤ (5 : Word).toNat % 8 ∧ 5 ≤ (0xFFFF : Word).toNat % 8 ∧
    Sel.init.code = 0xF1 ∧ Sel.fcnt.code = 0xF2 := by
  refine ⟨rfl, fun sel => ?_, fun sel => ?_, by decide⟩ <;> cases sel <;> decide

/-- One request of each clause, before a state whose next turn is the host's. -/
theorem witness_UnknownRequestsAreRefused_state :
    let s := { quiet with requests := [⟨0x09, 5⟩], turns := [.host] }
    s.phase = .idle ∧ s.requests = ⟨0x09, 5⟩ :: [] ∧ s.turns = .host :: [] := by decide

theorem witness_DecodedFrameIsSentByItsCommand :
    decodeFrame quiet.params.deviceCode [0x7E, 0xFF, 0x06, 0x06, 0x00, 0x1E, 0x00, 0xEF] =
      .ok (.volset 100) := by decide

theorem witness_EncodedFrameDecodesToItsCommand :
    distinctDeviceBytes standardDeviceCode ∧ canonical (.playidx 0xFFFF) ∧
    canonical (.volset 100) ∧ canonical (.volset 0) ∧ canonical (.eqset 5) ∧ canonical (.dac 1) ∧
    canonical (.devsel 4) ∧ canonical (.next 0) :=
  ⟨by decide, trivial, ⟨30, by decide⟩, ⟨0, by decide⟩, Nat.le_refl 5, Nat.le_refl 1, Nat.le_refl 4,
    rfl⟩

theorem witness_EveryWireFrameDecodes :
    (Instr.volset 0xFFFF).wellFormed = true ∧ (Instr.volset 0xFFFF).sel ∈ Sel.wire ∧
    (Instr.devsel 4).wellFormed = true ∧ (Instr.devsel 4).sel ∈ Sel.wire := by decide

theorem witness_UnlistedOpcodesNameNoCommand :
    [0x00, 0x0B, 0x10, 0x41, 0x4F, (0xFF : Byte)].all fun op =>
      op ∉ [0x01, 0x02, 0x03, 0x04, 0x05, 0x06, 0x07, 0x08, 0x09, 0x0A, 0x0C, 0x0D, 0x0E, 0x0F, 0x11,
        0x12, 0x16, 0x17, 0x18, 0x19, 0x1A, 0x42, 0x43, 0x44, 0x47, 0x48, 0x49, (0x4E : Byte)] := by
  decide

theorem witness_StepRunsTheIssuedCommand :
    let s := { quiet with requests := [⟨0x0D, 7⟩] }
    s.phase = .idle ∧ s.requests = ⟨0x0D, 7⟩ :: [] ∧ s.nextTurn.1 = .host ∧
    s.turns = [] ∧ s.turnsAfter = .due ∧
    ({ s with turns := [.host, .timebase] } : State).turns = .host :: [.timebase] ∧
    ({ s with turnsAfter := .cycle .host [.reset] } : State).nextTurn.1 = .host ∧
    decodeRequest ⟨0x0D, 7⟩ = .ok (.play 7) := by decide

theorem witness_FetchedWordRunsNext :
    quiet.phase = .idle ∧ decodeTableWord 64 0x7EFF0609000200EF = some (.devsel 1) := by decide

theorem witness_HostHasNoStepWhileBusy :
    (sending .play 0x0D).phase ≠ .idle ∧ (draining .qvol []).phase ≠ .idle ∧
    ({ quiet with phase := .failed } : State).phase ≠ .idle := by decide

/-- None, six and seven bytes sent; and the other agents' turns between two bytes. -/
theorem witness_TxByteSendsTheNextFrameByte :
    let s := { sending .play 0x0D with turns := [.sequencer] }
    s.phase = .tx ∧ s.turns = .sequencer :: [] ∧ s.txIdx.toNat < 7 ∧
    ({ s with txIdx := 6 } : State).txIdx.toNat < 7 ∧
    ({ s with txIdx := 7 } : State).txIdx.toNat = 7 ∧
    ({ s with turns := [.timebase] } : State).turns = .timebase :: [] ∧
    ({ s with turns := [.peripheral 0xEF] } : State).turns = .peripheral 0xEF :: [] := by decide

theorem witness_TickCountsOnlyWhileSettling :
    let s := { settling .play 0x0D 1 with turns := [.timebase] }
    s.turns = .timebase :: [] ∧ s.phase = .settle ∧ 0 < s.settleMs.toNat ∧
    (settling .play 0x0D 0).settleMs = 0 ∧ quiet.phase ≠ .settle := by decide

/-- All four clauses. -/
theorem witness_SettledChoosesWhatFollows :
    ({ settling .play 0x0D 1 with turns := [.sequencer] } : State).turns = .sequencer :: [] ∧
    (settling .play 0x0D 1).phase = .settle ∧ (settling .play 0x0D 1).settleMs ≠ 0#10 ∧
    ((settling .qvol 0x43 0).settleMs = 0#10 ∧ (settling .qvol 0x43 0).txOp ∈ querySet) ∧
    ((settling .init 0x09 0).settleMs = 0#10 ∧ (settling .init 0x09 0).txOp ∉ querySet ∧
      (settling .init 0x09 0).cmdSel = .init ∧ (settling .init 0x09 0).mstep = 0#1) ∧
    ((settling .play 0x0D 0).settleMs = 0#10 ∧ (settling .play 0x0D 0).txOp ∉ querySet ∧
      (settling .play 0x0D 0).cmdSel ≠ .init) := by decide

theorem witness_DrainAttemptTakesOneChunk :
    let s := { draining .qstate (answer0 ++ answer1) with turns := [.sequencer] }
    s.phase = .drain ∧ s.turns = .sequencer :: [] ∧
    decodeRx (s.rxFifo.take 10) = some (0x42, 0x0200) ∧
    decodeRx ((draining .qstate []).rxFifo.take 10) = none ∧
    decodeRx ((draining .qstate (answer0.take 9)).rxFifo.take 10) = none := by decide

theorem witness_CompletionWritesTheResult :
    let s := { draining .qvol [] with turns := [.sequencer] }
    s.phase = .drain ∧ s.turns = .sequencer :: [] ∧ s.cmdSel ∈ querySels ∧
    decodeRx (s.rxFifo.take 10) = none ∧ s.lastValid = false ∧ s.cmdSel ≠ .init ∧
    ({ s with lastValid := true } : State).lastValid = true ∧
    (draining .init []).lastValid = false ∧ (draining .init []).cmdSel = .init ∧
    (draining .init []).cmdSel ∈ querySels := by decide

theorem witness_InitFailureIsRaisedWithNoResponse :
    let s := { draining .init [] with mstep := 1, turns := [.sequencer] }
    s.phase = .drain ∧ s.turns = .sequencer :: [] ∧ s.cmdSel = .init ∧ s.lastValid = false ∧
    decodeRx (s.rxFifo.take 10) = none ∧ s.phase ≠ .failed ∧ after s State.phase = some .failed := by
  decide

/-- Unbounded; one byte short of full; full. -/
theorem witness_ReceivedByteIsAppendedOrLost :
    ({ quiet with turns := [.peripheral 0x7E] } : State).turns = .peripheral 0x7E :: [] ∧
    quiet.params.rxCapacity = none ∧
    ((bounded [1, 2, 3]).params.rxCapacity = some 4 ∧ (bounded [1, 2, 3]).rxFifo.length < 4) ∧
    ((bounded [1, 2, 3, 4]).params.rxCapacity = some 4 ∧
      4 ≤ (bounded [1, 2, 3, 4]).rxFifo.length) := by decide

theorem witness_ResetRestoresTheBlock :
    ({ sending .play 0x0D with turns := [.reset, .host] } : State).turns = .reset :: [.host] := by
  decide

/-- For the nine statements on issuing whose only hypothesis is that PHASE is IDLE. -/
theorem witness_idle : quiet.phase = .idle := by decide

/-- For DeviceSelectionSendsAndRetains and FileCountDependsOnTheDevice: every device, and an argument
whose upper bits are set. -/
theorem witness_devices :
    quiet.phase = .idle ∧ deviceOfArg 0 = some .usb ∧ deviceOfArg 1 = some .sd ∧
    deviceOfArg 2 = some .aux ∧ deviceOfArg 3 = some .sleep ∧ deviceOfArg 4 = some .flash ∧
    deviceOfArg 0xFFFC = some .flash ∧ quiet.curdev = .usb ∧
    ({ quiet with curdev := .sleep } : State).curdev = .sleep := by decide

theorem witness_DeviceCommandsRefuseOtherCodes :
    deviceOfArg 5 = none ∧ deviceOfArg 6 = none ∧ deviceOfArg 7 = none ∧
    deviceOfArg 0xFFFF = none := by decide

theorem witness_IssuedFrameIsTheEncodedOne :
    quiet.phase = .idle ∧ encodeFrame quiet.params (.volset 50) =
      some [0x7E, 0xFF, 0x06, 0x06, 0x00, 0x0F, 0x00, 0xEF] := by decide

/-- `PLAY` is no request that sends nothing, and neither is no request. -/
theorem witness_PhaseTransitionsAreTheTable_host :
    let s := { quiet with requests := [⟨0x0D, 0⟩] }
    s.nextTurn.1 = .host ∧ ¬ (s.requests = [] ∨ nextRequestSkips s) ∧
    (quiet.requests = [] ∨ nextRequestSkips quiet) ∧
    nextRequestSkips { quiet with requests := [⟨0xF3, 0⟩], curdev := .aux } := by
  refine ⟨rfl, ?_, .inl rfl, ⟨⟨0xF3, 0⟩, [], .fcntc 0, rfl, rfl, .inr ⟨rfl, .inl rfl⟩⟩⟩
  rintro (h | ⟨r, rest, i, hr, hd, h⟩)
  · cases h
  · cases hr
    have : i = .play 0 := Except.ok.inj (hd.symm.trans rfl)
    subst this
    rcases h with ⟨h, _⟩ | ⟨h, _⟩ <;> cases h

/-- A step of each agent, one of each phase. -/
theorem witness_PhaseTransitionsAreTheTable :
    (after { quiet with requests := [⟨0x0D, 0⟩] } State.phase = some .tx) ∧
    (after { quiet with requests := [⟨0xF3, 0⟩], curdev := .aux } State.phase = some .idle) ∧
    (after { quiet with phase := .failed, turns := [.reset] } State.phase = some .idle) ∧
    (after (settling .qvol 0x43 0) State.phase = some .drain) ∧
    (after (settling .init 0x09 0) State.phase = some .tx) ∧
    (after (draining .qvol answer0) State.phase = some .drain) ∧
    (after { draining .qvol [] with turns := [.timebase] } State.phase = some .drain) := by decide

/-- In FAILED: `reset`, the peripheral, the host. -/
theorem witness_OnlyResetLeavesFailed :
    let s := { quiet with phase := .failed, faultInit := true, requests := [⟨0x0D, 0⟩] }
    s.phase = .failed ∧
    after { s with turns := [.reset] } State.phase = some .idle ∧
    after { s with turns := [.peripheral 5] } State.rxFifo = some [5] ∧
    after { s with turns := [.host] } State.phase = some .failed := by decide

/-- `DEVSEL` and `EQSET` issued by the host: the clauses' premises hold. -/
theorem witness_SessionRegistersChangeOnlyByTheirSetters :
    let s := { quiet with requests := [⟨0x09, 4⟩] }
    let s' := { quiet with requests := [⟨0x07, 5⟩] }
    s.nextTurn.1 = .host ∧ after s State.curdev = some .flash ∧ s.curdev = .usb ∧
    s'.nextTurn.1 = .host ∧ after s' State.cureq = some .bass ∧ s'.cureq = .normal := by decide

theorem not_nextRequestSkips_of_none {s : State} (h : s.requests = []) : ¬ nextRequestSkips s := by
  rintro ⟨r, rest, i, hr, _⟩
  rw [h] at hr
  cases hr

/-- In TX, and at a drain attempt that decodes. -/
theorem witness_ResultRegistersChangeOnlyAtCompletion :
    (∃ t, step (sending .play 0x0D) = .next t ∧ (sending .play 0x0D).nextTurn.1 ≠ .reset ∧
      ¬ ((sending .play 0x0D).nextTurn.1 = .sequencer ∧ (sending .play 0x0D).phase = .drain ∧
        decodeRx ((sending .play 0x0D).rxFifo.take 10) = none) ∧
      ¬ ((sending .play 0x0D).nextTurn.1 = .host ∧ (sending .play 0x0D).phase = .idle ∧
        nextRequestSkips (sending .play 0x0D))) ∧
    ∃ t, step (draining .qvol answer0) = .next t ∧ (draining .qvol answer0).nextTurn.1 ≠ .reset ∧
      ¬ ((draining .qvol answer0).nextTurn.1 = .sequencer ∧ (draining .qvol answer0).phase = .drain ∧
        decodeRx ((draining .qvol answer0).rxFifo.take 10) = none) ∧
      ¬ ((draining .qvol answer0).nextTurn.1 = .host ∧ (draining .qvol answer0).phase = .idle ∧
        nextRequestSkips (draining .qvol answer0)) :=
  ⟨⟨_, rfl, by decide, by decide, fun h => absurd h.2.1 (by decide)⟩,
   ⟨_, rfl, by decide, by decide, fun h => absurd h.2.1 (by decide)⟩⟩

/-- Both disjuncts: raised by `INIT`, cleared by `reset`. -/
theorem witness_FaultIsRaisedOnlyByInit :
    let s := { quiet with phase := .failed, faultInit := true, turns := [.reset] }
    after (draining .init []) State.faultInit = some true ∧
    (draining .init []).faultInit = false ∧
    after s State.faultInit = some false ∧ s.faultInit = true := by decide

/-- Every way a stream changes. -/
theorem witness_StreamsAreTouchedOnlyByTheirOwners :
    after (sending .play 0x0D) State.txLog = some [0x7E] ∧
    after (draining .qvol answer0) State.rxFifo = some [] ∧
    after { quiet with turns := [.peripheral 9] } State.rxFifo = some [9] := by decide

theorem witness_ParametersNeverChange : ∃ t, step quiet = .next t := ⟨_, rfl⟩

theorem quiet_inv : quiet.Inv where
  timer_bound := by decide
  timer_settle := fun _ => rfl
  txIdx_tx := fun _ => rfl
  fault_failed := by decide
  no_answer := fun _ => ⟨rfl, rfl, rfl⟩
  resVal_bound := by decide
  listed := by rintro (h | h | h) <;> cases h
  drain_query := fun h => by cases h
  query_sel := fun _ h => absurd h (by decide)
  mstep_query := fun h => by cases h
  mstep_select := fun h => by cases h
  rx_bound := fun c h => by cases h

/-- In IDLE, and in the middle of `INIT` with its timer running. -/
theorem witness_StepKeepsTheInvariant :
    quiet.Inv ∧ (∃ t, step quiet = .next t) ∧
    ({ settling .init 0x42 200 with mstep := 1 } : State).Inv ∧
    ∃ t, step { settling .init 0x42 200 with mstep := 1 } = .next t := by
  refine ⟨quiet_inv, ⟨_, rfl⟩, ?_, ⟨_, rfl⟩⟩
  exact
    { timer_bound := by decide
      timer_settle := fun h => absurd rfl h
      txIdx_tx := fun _ => rfl
      fault_failed := by decide
      no_answer := fun _ => ⟨rfl, rfl, rfl⟩
      resVal_bound := by decide
      listed := fun _ => by decide
      drain_query := fun h => by cases h
      query_sel := fun _ _ => rfl
      mstep_query := fun _ => ⟨rfl, .inr (.inl rfl), rfl⟩
      mstep_select := fun _ h => by cases h
      rx_bound := fun c h => by cases h }

/-- Two different states, and two equal ones with a command in flight. -/
theorem witness_UnspecifiedRegistersAreNeverSeen :
    AgreeWhereRead quiet { quiet with cmdSel := .dac, txOp := 0x55, lastOp := 0xAA, lastDw := 1 } ∧
    AgreeWhereRead (draining .qvol answer0) { draining .qvol answer0 with lastDw := 7 } :=
  ⟨⟨rfl, (by rintro (h | h | h) <;> cases h), (fun h => by cases h)⟩,
   ⟨rfl, fun _ => ⟨rfl, rfl, rfl, rfl, rfl⟩, (fun _ h => by cases h)⟩⟩

/-- V7: two frames and an empty buffer behind them; and V41: none. -/
theorem witness_DrainAnswersWithTheLastFrame :
    let s := draining .qstate (answer0 ++ answer1)
    s.phase = .drain ∧ s.turns = [] ∧ s.turnsAfter = .due ∧ s.lastValid = false ∧ s.cmdSel ∈ querySels ∧
    (∀ f ∈ [answer0, answer1], (decodeRx f).isSome = true) ∧
    s.rxFifo = [answer0, answer1].flatten ++ [] ∧ decodeRx (([] : List Byte).take 10) = none ∧
    (draining .init []).cmdSel ∈ querySels ∧
    (draining .init []).rxFifo = ([] : List (List Byte)).flatten ++ [] := by decide

theorem witness_CommandLeftToRunCompletes :
    let s := sending .play 0x0D
    s.phase = .tx ∧ s.txIdx = 0#3 ∧ s.turns = [] ∧ s.turnsAfter = .due ∧ s.txOp ∉ querySet ∧
    s.cmdSel ≠ .init := by decide

/-- The turns of a frame, its delay and one turn of the sequencer more. -/
def frameTurns (ms : Nat) (rest : List Agent) : List Agent :=
  List.replicate 8 .sequencer ++ (List.replicate ms .timebase ++ rest)

theorem length_frameTurns (ms : Nat) (rest : List Agent) :
    (frameTurns ms rest).length = 8 + (ms + rest.length) := by
  simp [frameTurns]; omega

theorem reset_notMem_frameTurns {ms : Nat} {rest : List Agent} (h : Agent.reset ∉ rest) :
    Agent.reset ∉ frameTurns ms rest := by
  unfold frameTurns
  simp [List.mem_append, List.mem_replicate, h]

/-- A whole `PLAY`, with the delay at its shortest. -/
theorem witness_WireCommandUnderAnyInterleaving :
    ∃ u v, exec (.play 0) quiet = .next u ∧ u.phase = .tx ∧ u.txOp ∉ querySet ∧
      (Instr.play 0).sel ≠ .init ∧ quiet.requests = [] ∧
      Agent.reset ∉ frameTurns 30 [.sequencer] ∧
      run (frameTurns 30 [.sequencer]).length { u with turns := frameTurns 30 [.sequencer] } =
        .next v ∧ v.phase = .idle := by
  refine ⟨sending .play 0x0D,
    { quiet with cmdSel := .play, txOp := 0x0D, txLog := encodeTx 0x0D 0 0 },
    rfl, by decide, by decide, by decide, rfl, by decide, ?_, rfl⟩
  refine (run_add (k := 8) (m := 31) (run_frame rfl rfl rfl)).trans ?_
  refine (run_add (k := 30) (m := 1) (run_delay (ts := [.sequencer]) rfl (by decide) rfl)).trans ?_
  rw [run_one]
  rfl

/-- A whole `QVOL` that gets no answer. -/
theorem witness_QueryUnderAnyInterleaving :
    ∃ u v, exec (.qvol 0) quiet = .next u ∧ u.phase = .tx ∧ u.txOp ∈ querySet ∧
      quiet.requests = [] ∧ quiet.params.rxCapacity = none ∧
      Agent.reset ∉ frameTurns 200 [.sequencer, .sequencer] ∧
      run (frameTurns 200 [.sequencer, .sequencer]).length
        { u with turns := frameTurns 200 [.sequencer, .sequencer] } = .next v ∧ v.phase = .idle := by
  refine ⟨sending .qvol 0x43,
    { quiet with cmdSel := .qvol, txOp := 0x43, txLog := encodeTx 0x43 0 0 },
    rfl, by decide, by decide, rfl, rfl,
    reset_notMem_frameTurns (by decide), ?_, rfl⟩
  refine (run_add (k := 8) (m := 202) (run_frame rfl rfl rfl)).trans ?_
  refine (run_add (k := 200) (m := 2)
    (run_delay (ts := [.sequencer, .sequencer]) rfl (by decide) rfl)).trans ?_
  refine (run_succ_of_next (t := { draining .qvol [] with
    txOp := 0x43, txLog := encodeTx 0x43 0 0, turns := [.sequencer] }) rfl).trans ?_
  rw [run_one]
  rfl

/-- A whole `INIT` that gets no answer. -/
theorem witness_InitUnderAnyInterleaving :
    ∃ u v, quiet.faultInit = false ∧ deviceOfArg 1 = some .sd ∧ exec (.init 1) quiet = .next u ∧
      quiet.requests = [] ∧
      Agent.reset ∉ frameTurns 200 (.sequencer :: frameTurns 200 [.sequencer, .sequencer]) ∧
      run (frameTurns 200 (.sequencer :: frameTurns 200 [.sequencer, .sequencer])).length
        { u with turns := frameTurns 200 (.sequencer :: frameTurns 200 [.sequencer, .sequencer]) } =
          .next v ∧ (v.phase = .idle ∨ v.phase = .failed) := by
  let u : State := { quiet with
    phase := .tx, cmdSel := .init, cmdArg := 1, txOp := 0x09, txLo := 2, curdev := .sd }
  let w : State := { u with
    txOp := 0x42, txLo := 0, mstep := 1, txLog := encodeTx 0x09 2 0
    turns := frameTurns 200 [.sequencer, .sequencer] }
  let d : State := { w with
    phase := .drain, txLog := encodeTx 0x09 2 0 ++ encodeTx 0x42 0 0, turns := [.sequencer] }
  refine ⟨u, { d.raiseInitFailure with turns := [] }, rfl, rfl, rfl, rfl, ?_, ?_, .inr rfl⟩
  · exact reset_notMem_frameTurns
      (List.not_mem_cons_of_ne_of_not_mem (by decide) (reset_notMem_frameTurns (by decide)))
  rw [length_frameTurns, List.length_cons, length_frameTurns]
  refine (run_add (k := 8) (m := 200 + (8 + (200 + 2) + 1)) (run_frame rfl rfl rfl)).trans ?_
  refine (run_add (k := 200) (m := 8 + (200 + 2) + 1) (run_delay
    (ts := .sequencer :: frameTurns 200 [.sequencer, .sequencer]) rfl (by decide) rfl)).trans ?_
  refine (run_succ_of_next (t := w) ((step_of_turns (a := .sequencer)
    (ts := frameTurns 200 [.sequencer, .sequencer]) rfl).trans (congrArg Host.Outcome.next
      ((sequencerStep_settled rfl rfl).trans (settledStep_queries (by decide) rfl rfl))))).trans ?_
  refine (run_add (k := 8) (m := 200 + 2) (run_frame rfl rfl rfl)).trans ?_
  refine (run_add (k := 200) (m := 2)
    (run_delay (ts := [.sequencer, .sequencer]) rfl (by decide) rfl)).trans ?_
  refine (run_succ_of_next (t := d) rfl).trans ?_
  rw [run_one]
  rfl

theorem witness_InitFailsOnSilence :
    quiet.phase = .idle ∧ quiet.turns = [] ∧ quiet.turnsAfter = .due ∧ quiet.rxFifo = [] ∧
    deviceOfArg 4 = some .flash := by decide

theorem witness_InitIsSatisfiedByAnyFrame :
    let s := { quiet with rxFifo := answer0 }
    s.phase = .idle ∧ s.turns = [] ∧ s.turnsAfter = .due ∧ s.faultInit = false ∧
    deviceOfArg 0 = some .usb ∧
    decodeRx s.rxFifo = some (0x42, 0x0200) := by decide

theorem witness_DrainLastsWhileFramesArrive :
    let s := { draining .qvol [] with
      turns := (List.replicate 2 (answer0.map Agent.peripheral ++ [Agent.sequencer])).flatten }
    s.phase = .drain ∧ s.rxFifo = [] ∧ s.params.rxCapacity = none ∧
    (decodeRx answer0).isSome = true ∧
    s.turns = (List.replicate 2 (answer0.map Agent.peripheral ++ [Agent.sequencer])).flatten := by
  decide

/-- The endless clause: a frame and an attempt, again and again. -/
theorem witness_DrainLastsWhileFramesArrive_endless :
    let rest := answer0.tail.map Agent.peripheral ++ [Agent.sequencer]
    let s := { draining .qvol [] with turnsAfter := .cycle (.peripheral 0x7E) rest }
    s.phase = .drain ∧ s.rxFifo = [] ∧ s.params.rxCapacity = none ∧ s.turns = [] ∧
    (decodeRx answer0).isSome = true ∧
    .peripheral 0x7E :: rest = answer0.map Agent.peripheral ++ [Agent.sequencer] := by decide

/-- One frame there, one byte to come, and two turns of the sequencer; and nothing there. -/
theorem witness_DrainEndsOnceArrivalsAreOutrun :
    let as : List Agent := [.sequencer, .peripheral 0x7E, .host, .sequencer]
    (draining .qvol answer0).phase = .drain ∧
    ((draining .qvol answer0).rxFifo.length + (arrivals as).length) / 10 < as.count .sequencer ∧
    ((draining .qvol []).rxFifo.length + (arrivals [.sequencer]).length) / 10 <
      [Agent.sequencer].count .sequencer := by decide

/-- Nineteen bytes left over fit a buffer of nineteen. -/
theorem witness_StartStateHasTheInvariant :
    let p := { quiet.params with rxCapacity := some 19 }
    ∀ c, p.rxCapacity = some c → (answer0 ++ answer1.tail).length ≤ c := by
  rintro p c h
  cases h
  decide

end Sys2Proof.Tests
end

/-! PROOFS. What each agent's turn does to the parameters of R8 (spec/00_scope.md R8, spec/10_state.md
R20): nothing. -/

namespace Sys2Proof.Proofs.Scope

open Sys2Proof Sys2Proof.Machine Sys2Proof.Claims

/-- An `issue` that completes leaves the parameters, whichever command it is. -/
theorem exec_params {i : Instr} {s t : State} (h : exec i s = .next t) : t.params = s.params := by
  obtain ⟨_, ⟨_, _, _, _, rfl, _⟩ | ⟨rfl, _⟩⟩ := exec_eq_next h
  · rw [State.loadFrame_params, State.latchCommand_params]
  · rw [State.clearResult_params, State.latchCommand_params]

theorem hostTurn_params {s t : State} (h : hostTurn s = .next t) : t.params = s.params := by
  obtain ⟨rfl, _⟩ | ⟨_, _, _, _, _, _, hexec⟩ := hostTurn_eq_next h
  · rfl
  · rw [exec_params hexec, State.setRequests_params]

@[simp] theorem txByteStep_params (s : State) : (txByteStep s).params = s.params := by
  obtain ⟨_, e⟩ | ⟨_, e⟩ := txByteStep_cases s <;> rw [e]

@[simp] theorem settledStep_params (s : State) : (settledStep s).params = s.params := by
  obtain ⟨_, e⟩ | ⟨_, _, _, e⟩ | ⟨_, _, e⟩ := settledStep_cases s <;> rw [e]
  case inr.inl => simp only [State.loadFrame_params]

@[simp] theorem drainAttempt_params (s : State) : (drainAttempt s).params = s.params := by
  obtain ⟨_, _, _, e⟩ | ⟨_, _, e⟩ | ⟨_, _, _, e⟩ | ⟨_, _, _, e⟩ := drainAttempt_cases s <;> rw [e]
  · simp only [State.writeResult_params, State.rxDrop_params]
  · simp only [State.clearResult_params, State.rxDrop_params]
  · simp only [State.raiseInitFailure_params, State.rxDrop_params]

@[simp] theorem sequencerStep_params (s : State) : (sequencerStep s).params = s.params := by
  obtain ⟨_, e⟩ | ⟨_, _, e⟩ | ⟨_, _, e⟩ | ⟨_, e⟩ | ⟨_, e⟩ := sequencerStep_cases s <;> rw [e]
  · exact txByteStep_params s
  · exact settledStep_params s
  · exact drainAttempt_params s

@[simp] theorem tickStep_params (s : State) : (tickStep s).params = s.params := by
  obtain ⟨_, _, e⟩ | e := tickStep_cases s <;> rw [e]

@[simp] theorem rxByte_params (s : State) (b : Byte) : (s.rxByte b).params = s.params := by
  obtain ⟨e, _⟩ | ⟨e, _⟩ := rxByte_cases s b <;> rw [e]

/-- No agent's turn writes the parameters; `reset` reads them and leaves them (R320). -/
theorem agentTurn_params {a : Agent} {s t : State} (h : agentTurn a s = .next t) :
    t.params = s.params := by
  cases a with
  | host => exact hostTurn_params h
  | sequencer => rw [← Host.Outcome.next.inj h, sequencerStep_params]
  | timebase => rw [← Host.Outcome.next.inj h, tickStep_params]
  | peripheral b => rw [← Host.Outcome.next.inj h, rxByte_params]
  | reset => rw [← Host.Outcome.next.inj h, State.resetBlock_params]

/-- Settles O47: a step is one agent's turn, taken on the state with that turn used up. -/
theorem parametersNeverChange : Obligations.ParametersNeverChange := by
  unfold Obligations.ParametersNeverChange
  intro s t h
  exact (agentTurn_params h).trans s.takeTurn_params

end Sys2Proof.Proofs.Scope

/-! PROOFS. The registers of the block and the environment's streams (spec/10_state.md): what every step
keeps, which step may change which register, and that a register without a reset value is never seen. -/

namespace Sys2Proof.Proofs.Registers

open Sys2Proof Sys2Proof.Machine Sys2Proof.Claims

/-! ### What the laws of the model leave to say -/

theorem busy_iff {s : State} : s.busy ↔ s.phase ≠ .idle ∧ s.phase ≠ .failed := by
  unfold State.busy
  cases s.phase <;> decide

/-- Everything the completion action can do: end answered, unanswered or failed (R148, R290). -/
theorem completeCommand_cases (s : State) :
    (s.lastValid = true ∧ completeCommand s =
      { s.writeResult true s.lastOp s.lastDw (resultValue s.cmdSel (some (s.lastOp, s.lastDw))) with
        mstep := 0#1, phase := .idle }) ∨
    (s.lastValid = false ∧ s.cmdSel ≠ .init ∧
      completeCommand s = { s.clearResult with mstep := 0#1, phase := .idle }) ∨
    (s.lastValid = false ∧ s.cmdSel = .init ∧ completeCommand s = s.raiseInitFailure) := by
  cases hv : s.lastValid with
  | true => exact .inl ⟨rfl, completeCommand_answered hv⟩
  | false =>
    by_cases hi : s.cmdSel = .init
    · exact .inr (.inr ⟨rfl, hi, completeCommand_fails hv hi⟩)
    · exact .inr (.inl ⟨rfl, hi, completeCommand_unanswered hv hi⟩)

/-- The completion action ends the command. -/
theorem completeCommand_not_busy (s : State) : ¬ (completeCommand s).busy := by
  obtain ⟨_, e⟩ | ⟨_, _, e⟩ | ⟨_, _, e⟩ := completeCommand_cases s <;> rw [e] <;> simp [busy_iff]

/-- A host with nothing to present does nothing (log 11). -/
theorem hostTurn_no_request {s : State} (hr : s.requests = []) : hostTurn s = .next s := by
  unfold hostTurn State.nextRequest
  rw [hr]
  exact ite_self _

/-- In IDLE a request that the port does not accept is refused (R105, U10). -/
theorem hostTurn_refuses {s : State} {r : PortRequest} {rest : List PortRequest} {e : DecodeError}
    (hp : s.phase = .idle) (hr : s.requests = r :: rest) (hd : decodeRequest r = .error e) :
    hostTurn s = .refused (.notAccepted e) := by
  unfold hostTurn State.nextRequest
  rw [if_pos hp, hr]
  dsimp only
  rw [hd]

/-! ### Bounds of the values that are written -/

/-- The largest value loaded into SETTLE_MS is that of the chip reset (R28, R138). -/
theorem toNat_settleDelay_le (op : Byte) : (settleDelay op).toNat ≤ 1000 := by
  unfold settleDelay
  split
  · exact Nat.le_refl 1000
  · split <;> decide

/-- A command that has a row in R266 writes at most percent(65535) into RES_VAL (R33). -/
theorem toNat_resultValue_le {x : Sel} (hx : drains x = true) (answer : Option (Byte × Word)) :
    (resultValue x answer).toNat ≤ 218450 := by
  rcases answer with _ | ⟨op, dw⟩
  · exact Nat.zero_le _
  · have hdw : dw.toNat < 65536 := dw.isLt
    have volume : (BitVec.ofNat 32 (percent dw.toNat)).toNat ≤ 218450 := by
      refine (Nat.mod_le _ _).trans ?_
      unfold percent
      omega
    have word : (dw.setWidth 32).toNat ≤ 218450 := by
      rw [BitVec.toNat_setWidth]
      omega
    cases x <;> cases hx
    case qvol.refl => exact volume
    all_goals exact word

theorem equalizerIndex_equalizerOfIndex {n : Nat} (hn : n ≤ 5) :
    equalizerIndex (equalizerOfIndex n) = n := by
  interval_cases n <;> rfl

theorem coerce_le (e : Int) : coerce e ≤ 5 := by
  unfold coerce
  split <;> omega

/-! ### The invariant -/

/-- With no command in flight the invariant asks nothing of the latches. -/
theorem inv_of_not_busy {s : State} (rest : ¬ s.busy) (timer : s.settleMs = 0#10)
    (txIdx : s.txIdx = 0#3) (mstep : s.mstep = 0#1)
    (fault : s.faultInit = true ↔ s.phase = .failed)
    (noAnswer : s.resValid = false → s.resOp = 0#8 ∧ s.resDw = 0#16 ∧ s.resVal = 0#32)
    (resVal : s.resVal.toNat ≤ 218450)
    (rx : ∀ c, s.params.rxCapacity = some c → s.rxFifo.length ≤ c) : s.Inv where
  timer_bound := by simp [timer]
  timer_settle _ := timer
  txIdx_tx _ := txIdx
  fault_failed := fault
  no_answer := noAnswer
  resVal_bound := resVal
  listed hb := absurd hb rest
  drain_query hd := absurd (.inr (.inr hd)) rest
  query_sel hb := absurd hb rest
  mstep_query h1 := absurd (mstep.symm.trans h1) (by decide)
  mstep_select _ _ hb := absurd hb rest
  rx_bound := rx

theorem faultInit_eq_false {s : State} (h : s.Inv) (hp : s.phase ≠ .failed) :
    s.faultInit = false :=
  Bool.eq_false_iff.mpr fun hf => hp (h.fault_failed.mp hf)

theorem takeTurn_inv {s : State} (h : s.Inv) : s.takeTurn.Inv := { h with }

theorem setRequests_inv {s : State} (h : s.Inv) (rs : List PortRequest) :
    (s.setRequests rs).Inv := { h with }

theorem rxDrop_inv {s : State} (h : s.Inv) (n : Nat) : (s.rxDrop n).Inv :=
  { h with
    rx_bound := fun c hc => (List.drop_sublist n _).length_le.trans (h.rx_bound c hc) }

theorem rxByte_inv {s : State} (h : s.Inv) (b : Byte) : (s.rxByte b).Inv := by
  obtain ⟨e, room⟩ | ⟨e, _⟩ := rxByte_cases s b <;> rw [e]
  · exact { h with
      rx_bound := fun c hc => by
        rw [List.length_append]
        exact room c hc }
  · exact h

theorem resetBlock_inv {s : State} (h : s.Inv) : s.resetBlock.Inv :=
  inv_of_not_busy (by simp [busy_iff]) rfl rfl rfl (by simp) (fun _ => ⟨rfl, rfl, rfl⟩)
    (Nat.zero_le _) h.rx_bound

theorem tickStep_inv {s : State} (h : s.Inv) : (tickStep s).Inv := by
  obtain ⟨hp, hm, e⟩ | e := tickStep_cases s <;> rw [e]
  · have hb := h.timer_bound
    exact { h with
      timer_bound := by
        show (s.settleMs - 1#10).toNat ≤ 1000
        bv_omega
      timer_settle := fun hne => absurd hp hne }
  · exact h

theorem txByteStep_inv {s : State} (h : s.Inv) (hp : s.phase = .tx) : (txByteStep s).Inv := by
  have hb : s.busy := .inl hp
  obtain ⟨_, e⟩ | ⟨_, e⟩ := txByteStep_cases s <;> rw [e]
  · exact { h with
      timer_bound := toNat_settleDelay_le s.txOp
      timer_settle := fun hne => absurd rfl hne
      txIdx_tx := fun _ => rfl
      fault_failed := by simpa [hp] using h.fault_failed
      listed := fun _ => h.listed hb
      drain_query := fun hd => by cases hd
      query_sel := fun _ => h.query_sel hb
      mstep_query := fun h1 =>
        have ⟨hsel, _, hop⟩ := h.mstep_query h1
        ⟨hsel, .inr (.inl rfl), hop⟩
      mstep_select := fun hsel h0 _ =>
        have ⟨hop, _⟩ := h.mstep_select hsel h0 hb
        ⟨hop, by simp⟩ }
  · exact { h with txIdx_tx := fun hne => absurd hp hne }

/-- Where `settled` goes on to the drain, the command is not in the first half of INIT; where it ends, the
command is not in the second (R142). -/
theorem settledStep_inv {s : State} (h : s.Inv) (hp : s.phase = .settle) (hm : s.settleMs = 0#10) :
    (settledStep s).Inv := by
  have hb : s.busy := .inr (.inl hp)
  have hnf : s.faultInit = false := faultInit_eq_false h (by simp [hp])
  have hidx : s.txIdx = 0#3 := h.txIdx_tx (by simp [hp])
  obtain ⟨hq, e⟩ | ⟨_, hsel, _, e⟩ | ⟨hq, hne, e⟩ := settledStep_cases s <;> rw [e]
  · exact { h with
      timer_settle := fun _ => hm
      txIdx_tx := fun _ => hidx
      fault_failed := by simp [hnf]
      listed := fun _ => h.listed hb
      drain_query := fun _ => hq
      query_sel := fun _ => h.query_sel hb
      mstep_query := fun h1 =>
        have ⟨hsel, _, hop⟩ := h.mstep_query h1
        ⟨hsel, .inr (.inr rfl), hop⟩
      mstep_select := fun hsel h0 _ => by
        obtain ⟨hop, _⟩ := h.mstep_select hsel h0 hb
        rw [hop] at hq
        exact absurd hq (by decide) }
  · exact { h with
      timer_settle := fun _ => hm
      txIdx_tx := fun _ => rfl
      fault_failed := by simp [hnf]
      listed := fun _ => by rw [State.loadFrame_txOp]; decide
      drain_query := fun hd => by cases hd
      query_sel := fun _ _ => by
        show drains s.cmdSel = true
        rw [hsel]; rfl
      mstep_query := fun _ => ⟨hsel, .inl rfl, rfl⟩
      mstep_select := fun _ h0 => by cases h0 }
  · have hmstep : s.mstep = 0#1 := by
      have hne1 : s.mstep ≠ 1#1 := by
        intro h1
        obtain ⟨_, _, hop⟩ := h.mstep_query h1
        exact hq (by rw [hop]; decide)
      bv_omega
    exact inv_of_not_busy (by simp [busy_iff]) hm hidx hmstep (by simp [hnf]) h.no_answer
      h.resVal_bound h.rx_bound

theorem completeCommand_inv {s : State} (h : s.Inv) (hp : s.phase = .drain) :
    (completeCommand s).Inv := by
  have hb : s.busy := .inr (.inr hp)
  have hnf : s.faultInit = false := faultInit_eq_false h (by simp [hp])
  have hm : s.settleMs = 0#10 := h.timer_settle (by simp [hp])
  have hidx : s.txIdx = 0#3 := h.txIdx_tx (by simp [hp])
  obtain ⟨_, e⟩ | ⟨_, _, e⟩ | ⟨_, _, e⟩ := completeCommand_cases s <;> rw [e]
  · exact inv_of_not_busy (by simp [busy_iff]) hm hidx rfl (by simp [hnf]) (fun hr => by cases hr)
      (toNat_resultValue_le (h.query_sel hb (h.drain_query hp)) _) h.rx_bound
  · exact inv_of_not_busy (by simp [busy_iff]) hm hidx rfl (by simp [hnf])
      (fun _ => ⟨rfl, rfl, rfl⟩) (Nat.zero_le _) h.rx_bound
  · exact inv_of_not_busy (by simp [busy_iff]) hm hidx rfl (by simp) (fun _ => ⟨rfl, rfl, rfl⟩)
      (Nat.zero_le _) h.rx_bound

theorem drainAttempt_inv {s : State} (h : s.Inv) (hp : s.phase = .drain) :
    (drainAttempt s).Inv := by
  cases hd : decodeRx (s.rxFifo.take 10) with
  | some r =>
    rw [drainAttempt_decodes hd]
    exact { rxDrop_inv h 10 with }
  | none =>
    rw [drainAttempt_ends hd]
    exact completeCommand_inv (rxDrop_inv h 10) hp

theorem sequencerStep_inv {s : State} (h : s.Inv) : (sequencerStep s).Inv := by
  obtain ⟨hp, e⟩ | ⟨_, _, e⟩ | ⟨hp, hm, e⟩ | ⟨hp, e⟩ | ⟨_, e⟩ := sequencerStep_cases s <;> rw [e]
  · exact txByteStep_inv h hp
  · exact h
  · exact settledStep_inv h hp hm
  · exact drainAttempt_inv h hp
  · exact h

/-- An `issue` that completes, with a frame or without, keeps the invariant (R131). -/
theorem exec_inv {i : Instr} {s t : State} (h : s.Inv) (hexec : exec i s = .next t) : t.Inv := by
  obtain ⟨hp, hcases⟩ := exec_eq_next hexec
  have hnf : s.faultInit = false := faultInit_eq_false h (by simp [hp])
  have hm : s.settleMs = 0#10 := h.timer_settle (by simp [hp])
  obtain ⟨op, w, d, e, rfl, hlisted, hinit, _, _, hquery⟩ | ⟨rfl, _⟩ := hcases
  · exact { h with
      timer_settle := fun _ => hm
      txIdx_tx := fun _ => rfl
      fault_failed := by simp [hnf]
      listed := fun _ => hlisted
      drain_query := fun hd => by cases hd
      query_sel := fun _ => hquery
      mstep_query := fun h1 => by cases h1
      mstep_select := fun hsel _ _ => ⟨hinit hsel, by simp⟩ }
  · exact inv_of_not_busy (by simp [busy_iff, hp]) hm (h.txIdx_tx (by simp [hp])) rfl
      (by simp [hnf, hp]) (fun _ => ⟨rfl, rfl, rfl⟩) (Nat.zero_le _) h.rx_bound

theorem hostTurn_inv {s t : State} (h : s.Inv) (ht : hostTurn s = .next t) : t.Inv := by
  obtain ⟨rfl, _⟩ | ⟨_, _, rest, _, _, _, hexec⟩ := hostTurn_eq_next ht
  · exact h
  · exact exec_inv (setRequests_inv h rest) hexec

theorem agentTurn_inv {a : Agent} {s t : State} (h : s.Inv) (ht : agentTurn a s = .next t) :
    t.Inv := by
  cases a with
  | host => exact hostTurn_inv h ht
  | sequencer => exact Host.Outcome.next.inj ht ▸ sequencerStep_inv h
  | timebase => exact Host.Outcome.next.inj ht ▸ tickStep_inv h
  | peripheral b => exact Host.Outcome.next.inj ht ▸ rxByte_inv h b
  | reset => exact Host.Outcome.next.inj ht ▸ resetBlock_inv h

/-- Settles O49: a step is one agent's turn, and each agent's turn keeps the invariant. -/
theorem stepKeepsTheInvariant : Obligations.StepKeepsTheInvariant := by
  unfold Obligations.StepKeepsTheInvariant
  intro s t h hstep
  exact agentTurn_inv (takeTurn_inv h) hstep

/-- The start state of a build with the parameters `p` (R50). -/
theorem startState_inv (p : Params) (rx : List Byte)
    (hrx : ∀ c, p.rxCapacity = some c → rx.length ≤ c) :
    ({ State.reset with
      params := p, curdev := p.initDevice, cureq := p.initEq, rxFifo := rx } : State).Inv :=
  inv_of_not_busy (by simp [busy_iff, State.reset]) rfl rfl rfl (by simp [State.reset])
    (fun _ => ⟨rfl, rfl, rfl⟩) (Nat.zero_le _) hrx

/-- Settles O50: the machine starts in IDLE with zeros, so only the receive buffer is left to ask about,
and that of `State.reset` is unbounded. -/
theorem startStateHasTheInvariant : Obligations.StartStateHasTheInvariant := by
  unfold Obligations.StartStateHasTheInvariant
  have unbounded : ∀ c, buildParams.rxCapacity = some c → Config.rxFifoAtReset.length ≤ c :=
    fun c hc => by cases hc
  exact ⟨startState_inv buildParams Config.rxFifoAtReset unbounded, startState_inv⟩

/-! ### Registers without a reset value (R51) -/

/-- `s` with the seven registers that have no reset value taken from `t`. -/
def borrow (s t : State) : State :=
  { s with
    cmdSel := t.cmdSel, cmdArg := t.cmdArg, txOp := t.txOp, txLo := t.txLo, txHi := t.txHi
    lastOp := t.lastOp, lastDw := t.lastDw }

/-- `s` with another running answer: all that two agreeing states can differ in while a command is in
flight. -/
def withLast (s : State) (op : Byte) (dw : Word) : State := { s with lastOp := op, lastDw := dw }

/-- Two turns answer alike: with agreeing next states, or with the same refusal. -/
def AnswersAgree (r r' : Result) : Prop :=
  (∃ s' t', r = .next s' ∧ r' = .next t' ∧ AgreeWhereRead s' t') ∨
  (∃ e, r = .refused e ∧ r' = .refused e)

theorem answersAgree_next {s t : State} (h : AgreeWhereRead s t) :
    AnswersAgree (.next s) (.next t) :=
  .inl ⟨s, t, rfl, rfl, h⟩

theorem answersAgree_refused (e : Refusal) : AnswersAgree (.refused e) (.refused e) :=
  .inr ⟨e, rfl, rfl⟩

theorem agree_refl (s : State) : AgreeWhereRead s s :=
  ⟨rfl, fun _ => ⟨rfl, rfl, rfl, rfl, rfl⟩, fun _ _ => ⟨rfl, rfl⟩⟩

/-- With no command in flight the seven registers may hold anything. -/
theorem agree_borrow {s : State} (hb : ¬ s.busy) (t : State) : AgreeWhereRead s (borrow s t) :=
  ⟨rfl, fun h => absurd h hb, fun h => absurd (.inr (.inr h)) hb⟩

/-- Outside a drain that has one, the running answer may be anything. -/
theorem agree_withLast {s : State} (h : s.phase = .drain → s.lastValid = false) (op : Byte)
    (dw : Word) : AgreeWhereRead s (withLast s op dw) :=
  ⟨rfl, fun _ => ⟨rfl, rfl, rfl, rfl, rfl⟩,
    fun hp hv => absurd ((h hp).symm.trans hv) Bool.false_ne_true⟩

/-- With a command in flight agreeing states differ in the running answer only. -/
theorem eq_withLast {s t : State} (h : AgreeWhereRead s t) (hb : s.busy) :
    t = withLast s t.lastOp t.lastDw := by
  obtain ⟨hsel, harg, hop, hlo, hhi⟩ := h.latches hb
  have e := h.rest
  rwa [hsel, harg, hop, hlo, hhi] at e

/-- In a drain that has an answer agreeing states are the same. -/
theorem eq_of_agree_answered {s t : State} (h : AgreeWhereRead s t) (hp : s.phase = .drain)
    (hv : s.lastValid = true) : t = s := by
  obtain ⟨hop, hdw⟩ := h.answer hp hv
  have e := eq_withLast h (.inr (.inr hp))
  rwa [hop, hdw] at e

/-- What does not look at the seven registers is the same in agreeing states. -/
theorem eq_of_agree {α : Type} (f : State → α) {s t : State} (h : AgreeWhereRead s t)
    (hf : f (borrow s t) = f s) : f t = f s :=
  (congrArg f h.rest).trans hf

/-! What writes none of the seven registers, nor a field that decides which of them are read, keeps
agreement. -/

theorem takeTurn_agree {s t : State} (h : AgreeWhereRead s t) :
    AgreeWhereRead s.takeTurn t.takeTurn :=
  ⟨congrArg State.takeTurn h.rest, h.latches, h.answer⟩

theorem rxDrop_agree {s t : State} (h : AgreeWhereRead s t) (n : Nat) :
    AgreeWhereRead (s.rxDrop n) (t.rxDrop n) :=
  ⟨congrArg (·.rxDrop n) h.rest, h.latches, h.answer⟩

theorem rxByte_agree {s t : State} (h : AgreeWhereRead s t) (b : Byte) :
    AgreeWhereRead (s.rxByte b) (t.rxByte b) := by
  have hparams := eq_of_agree State.params h rfl
  have hfifo := eq_of_agree State.rxFifo h rfl
  obtain ⟨e, room⟩ | ⟨e, c, hc, full⟩ := rxByte_cases s b <;> rw [e]
  · rw [rxByte_appends (by rwa [hparams, hfifo])]
    exact ⟨congrArg (fun u : State => { u with rxFifo := u.rxFifo ++ [b] }) h.rest, h.latches,
      h.answer⟩
  · rw [rxByte_loses (by rwa [hparams]) (by rwa [hfifo])]
    exact h

theorem tickStep_agree {s t : State} (h : AgreeWhereRead s t) :
    AgreeWhereRead (tickStep s) (tickStep t) := by
  have hphase := eq_of_agree State.phase h rfl
  have hms := eq_of_agree State.settleMs h rfl
  by_cases runs : s.phase = .settle ∧ s.settleMs ≠ 0#10
  · obtain ⟨hp, hm⟩ := runs
    rw [tickStep_counts hp hm, tickStep_counts (hphase.trans hp) (by rwa [hms])]
    exact ⟨congrArg (fun u : State => { u with settleMs := u.settleMs - 1#10 }) h.rest, h.latches,
      h.answer⟩
  · have still : s.phase ≠ .settle ∨ s.settleMs = 0#10 := by tauto
    rw [tickStep_still still, tickStep_still (by rwa [hphase, hms])]
    exact h

/-- `reset` writes all seven, with values that hang on the number of resets alone (R320). -/
theorem resetBlock_agree {s t : State} (h : AgreeWhereRead s t) :
    AgreeWhereRead s.resetBlock t.resetBlock := by
  rw [eq_of_agree State.resetBlock h rfl]
  exact agree_refl _

/-! The sequencer reads the latches of the command in flight, and the running answer only in a drain
that has one. -/

theorem txByteStep_withLast (s : State) (op : Byte) (dw : Word) :
    txByteStep (withLast s op dw) = withLast (txByteStep s) op dw := by
  obtain ⟨hi, e⟩ | ⟨hi, e⟩ := txByteStep_cases s <;> rw [e]
  · exact txByteStep_last (s := withLast s op dw) hi
  · exact txByteStep_more (s := withLast s op dw) hi

theorem settledStep_withLast (s : State) (op : Byte) (dw : Word) :
    settledStep (withLast s op dw) = withLast (settledStep s) op dw := by
  obtain ⟨hq, e⟩ | ⟨hq, hsel, hm, e⟩ | ⟨hq, hne, e⟩ := settledStep_cases s <;> rw [e]
  · exact settledStep_drains (s := withLast s op dw) hq
  · exact settledStep_queries (s := withLast s op dw) hq hsel hm
  · exact settledStep_ends (s := withLast s op dw) hq hne

theorem completeCommand_withLast {s : State} (hv : s.lastValid = false) (op : Byte) (dw : Word) :
    completeCommand (withLast s op dw) = withLast (completeCommand s) op dw := by
  obtain ⟨hv', _⟩ | ⟨_, hi, e⟩ | ⟨_, hi, e⟩ := completeCommand_cases s
  · exact absurd (hv.symm.trans hv') Bool.false_ne_true
  · rw [e]
    exact completeCommand_unanswered (s := withLast s op dw) hv hi
  · rw [e]
    exact completeCommand_fails (s := withLast s op dw) hv hi

theorem txByteStep_phase_ne_drain {s : State} (hp : s.phase = .tx) :
    (txByteStep s).phase ≠ .drain := by
  obtain ⟨_, e⟩ | ⟨_, e⟩ := txByteStep_cases s <;> rw [e]
  · simp
  · simp [hp]

/-- A drain starts without an answer (R142). -/
theorem settledStep_lastValid {s : State} (h : (settledStep s).phase = .drain) :
    (settledStep s).lastValid = false := by
  obtain ⟨_, e⟩ | ⟨_, _, _, e⟩ | ⟨_, _, e⟩ := settledStep_cases s <;> rw [e] at h ⊢ <;> cases h

/-- A drain without an answer does not read the running answer: its attempt decodes a new one or ends. -/
theorem drainAttempt_withLast_agree {s : State} (hv : s.lastValid = false) (op : Byte) (dw : Word) :
    AgreeWhereRead (drainAttempt s) (drainAttempt (withLast s op dw)) := by
  cases hd : decodeRx (s.rxFifo.take 10) with
  | some r =>
    rw [drainAttempt_decodes hd, drainAttempt_decodes (s := withLast s op dw) hd]
    exact agree_refl _
  | none =>
    have ends : drainAttempt (withLast s op dw) = withLast (completeCommand (s.rxDrop 10)) op dw :=
      (drainAttempt_ends (s := withLast s op dw) hd).trans
        (completeCommand_withLast (s := s.rxDrop 10) hv op dw)
    rw [drainAttempt_ends hd, ends]
    exact agree_withLast (fun hp => absurd (.inr (.inr hp)) (completeCommand_not_busy _)) op dw

theorem drainAttempt_agree {s t : State} (h : AgreeWhereRead s t) (hp : s.phase = .drain) :
    AgreeWhereRead (drainAttempt s) (drainAttempt t) := by
  cases hv : s.lastValid with
  | true =>
    rw [eq_of_agree_answered h hp hv]
    exact agree_refl _
  | false =>
    rw [eq_withLast h (.inr (.inr hp))]
    exact drainAttempt_withLast_agree hv _ _

theorem sequencerStep_agree {s t : State} (h : AgreeWhereRead s t) :
    AgreeWhereRead (sequencerStep s) (sequencerStep t) := by
  have hphase := eq_of_agree State.phase h rfl
  have hms := eq_of_agree State.settleMs h rfl
  obtain ⟨hp, e⟩ | ⟨hp, hm, e⟩ | ⟨hp, hm, e⟩ | ⟨hp, e⟩ | ⟨hp, e⟩ := sequencerStep_cases s <;> rw [e]
  · rw [sequencerStep_tx (hphase.trans hp), eq_withLast h (.inl hp), txByteStep_withLast]
    exact agree_withLast (fun hd => absurd hd (txByteStep_phase_ne_drain hp)) _ _
  · rw [sequencerStep_settling (hphase.trans hp) (by rwa [hms])]
    exact h
  · rw [sequencerStep_settled (hphase.trans hp) (hms.trans hm), eq_withLast h (.inr (.inl hp)),
      settledStep_withLast]
    exact agree_withLast settledStep_lastValid _ _
  · rw [sequencerStep_drain (hphase.trans hp)]
    exact drainAttempt_agree h hp
  · rw [sequencerStep_rests (by rwa [hphase])]
    exact h

/-! An `issue` writes the latches and reads none of the seven registers. -/

theorem whenIdle_agree {s t s' t' : State} (hp : t.phase = s.phase)
    (h : s.phase = .idle → AgreeWhereRead s' t') :
    AnswersAgree (whenIdle s s') (whenIdle t t') := by
  unfold whenIdle
  rw [hp]
  cases hs : s.phase with
  | idle => exact answersAgree_next (h hs)
  | tx | settle | drain => exact answersAgree_refused .portBusy
  | failed => exact answersAgree_refused .portFailed

theorem issueFrame_agree (x : Sel) (a : Word) (op : Byte) (w : Word) (s t : State) :
    AnswersAgree (issueFrame x a op w s) (issueFrame x a op w (borrow s t)) :=
  whenIdle_agree rfl fun _ => agree_withLast (fun hd => by cases hd) t.lastOp t.lastDw

theorem issueSkip_agree (x : Sel) (a : Word) (s t : State) :
    AnswersAgree (issueSkip x a s) (issueSkip x a (borrow s t)) :=
  whenIdle_agree rfl fun hp =>
    agree_borrow (by simp [busy_iff, hp]) (t.latchCommand x a)

theorem withDevice_agree {a : Word} {k k' : Device → Result}
    (h : ∀ d, AnswersAgree (k d) (k' d)) : AnswersAgree (withDevice a k) (withDevice a k') := by
  cases hd : deviceOfArg a with
  | some d => rw [withDevice_some hd, withDevice_some hd]; exact h d
  | none => rw [withDevice_none hd, withDevice_none hd]; exact answersAgree_refused _

theorem issueFileCount_agree (x : Sel) (a : Word) (d : Device) (s t : State) :
    AnswersAgree (issueFileCount x a d s) (issueFileCount x a d (borrow s t)) := by
  unfold issueFileCount
  cases fileCountOp d with
  | some op => exact issueFrame_agree x a op 0#16 s t
  | none => exact issueSkip_agree x a s t

theorem exec_agree (i : Instr) (s t : State) :
    AnswersAgree (exec i s) (exec i (borrow s t)) := by
  cases i
  case devsel | init => exact withDevice_agree fun d => issueFrame_agree _ _ _ _ (s.setDevice d) t
  case eqset a =>
    exact issueFrame_agree _ _ _ _ (s.setEqualizer (equalizerOfIndex (coerce a.toInt))) t
  case fcnt => exact withDevice_agree fun d => issueFileCount_agree _ _ d s t
  case fcntc => exact issueFileCount_agree _ _ s.curdev s t
  all_goals exact issueFrame_agree _ _ _ _ s t

theorem hostTurn_agree {s t : State} (h : AgreeWhereRead s t) :
    AnswersAgree (hostTurn s) (hostTurn t) := by
  have hphase : t.phase = s.phase := eq_of_agree State.phase h rfl
  have hrequests : t.requests = s.requests := eq_of_agree State.requests h rfl
  by_cases hp : s.phase = .idle
  · cases hr : s.requests with
    | nil =>
      rw [hostTurn_no_request hr, hostTurn_no_request (hrequests.trans hr)]
      exact answersAgree_next h
    | cons r rest =>
      cases hd : decodeRequest r with
      | ok i =>
        rw [hostTurn_issues hp hr hd, hostTurn_issues (hphase.trans hp) (hrequests.trans hr) hd,
          congrArg (·.setRequests rest) h.rest]
        exact exec_agree i (s.setRequests rest) t
      | error e =>
        rw [hostTurn_refuses hp hr hd, hostTurn_refuses (hphase.trans hp) (hrequests.trans hr) hd]
        exact answersAgree_refused _
  · rw [hostTurn_waits hp, hostTurn_waits (by rwa [hphase])]
    exact answersAgree_next h

theorem agentTurn_agree (a : Agent) {s t : State} (h : AgreeWhereRead s t) :
    AnswersAgree (agentTurn a s) (agentTurn a t) := by
  cases a with
  | host => exact hostTurn_agree h
  | sequencer => exact answersAgree_next (sequencerStep_agree h)
  | timebase => exact answersAgree_next (tickStep_agree h)
  | peripheral b => exact answersAgree_next (rxByte_agree h b)
  | reset => exact answersAgree_next (resetBlock_agree h)

/-- Settles O51: agreeing states name the same agent, and its turn on the one agrees with its turn on the
other. -/
theorem unspecifiedRegistersAreNeverSeen : Obligations.UnspecifiedRegistersAreNeverSeen := by
  unfold Obligations.UnspecifiedRegistersAreNeverSeen
  intro s t h
  refine ⟨eq_of_agree State.statusPort h rfl, ?_⟩
  rw [step_eq s, step_eq t, eq_of_agree State.nextTurn h rfl]
  exact agentTurn_agree s.nextTurn.1 (takeTurn_agree h)

/-! ### Which step changes a register that the host reads (R30 to R36) -/

/-- The session registers, the result registers and FAULT_INIT are in `t` as in `s`. -/
structure SameReadable (s t : State) : Prop where
  curdev : t.curdev = s.curdev
  cureq : t.cureq = s.cureq
  resValid : t.resValid = s.resValid
  resOp : t.resOp = s.resOp
  resDw : t.resDw = s.resDw
  resVal : t.resVal = s.resVal
  faultInit : t.faultInit = s.faultInit

theorem sameReadable_refl (s : State) : SameReadable s s := ⟨rfl, rfl, rfl, rfl, rfl, rfl, rfl⟩

theorem tickStep_sameReadable (s : State) : SameReadable s (tickStep s) := by
  obtain ⟨_, _, e⟩ | e := tickStep_cases s <;> rw [e] <;> exact { sameReadable_refl s with }

theorem rxByte_sameReadable (s : State) (b : Byte) : SameReadable s (s.rxByte b) := by
  obtain ⟨e, _⟩ | ⟨e, _⟩ := rxByte_cases s b <;> rw [e] <;> exact { sameReadable_refl s with }

theorem txByteStep_sameReadable (s : State) : SameReadable s (txByteStep s) := by
  obtain ⟨_, e⟩ | ⟨_, e⟩ := txByteStep_cases s <;> rw [e] <;> exact { sameReadable_refl s with }

theorem settledStep_sameReadable (s : State) : SameReadable s (settledStep s) := by
  obtain ⟨_, e⟩ | ⟨_, _, _, e⟩ | ⟨_, _, e⟩ := settledStep_cases s <;> rw [e] <;>
    exact { sameReadable_refl s with }

/-- The sequencer writes a register that the host reads only where it ends a drain. -/
theorem sequencerStep_ends_or_sameReadable (s : State) :
    (s.phase = .drain ∧ decodeRx (s.rxFifo.take 10) = none ∧
      sequencerStep s = completeCommand (s.rxDrop 10)) ∨
    SameReadable s (sequencerStep s) := by
  obtain ⟨_, e⟩ | ⟨_, _, e⟩ | ⟨_, _, e⟩ | ⟨hp, e⟩ | ⟨_, e⟩ := sequencerStep_cases s <;> rw [e]
  · exact .inr (txByteStep_sameReadable s)
  · exact .inr (sameReadable_refl s)
  · exact .inr (settledStep_sameReadable s)
  · cases hd : decodeRx (s.rxFifo.take 10) with
    | some r =>
      rw [drainAttempt_decodes hd]
      exact .inr { sameReadable_refl s with }
    | none => exact .inl ⟨hp, rfl, drainAttempt_ends hd⟩
  · exact .inr (sameReadable_refl s)

/-- The turns that may write a register that the host reads: `reset`, the end of a drain, and an `issue`. -/
theorem agentTurn_writes_or_sameReadable {a : Agent} {s t : State} (h : agentTurn a s = .next t) :
    (a = .reset ∧ t = s.resetBlock) ∨
    (a = .sequencer ∧ s.phase = .drain ∧ decodeRx (s.rxFifo.take 10) = none ∧
      t = completeCommand (s.rxDrop 10)) ∨
    (a = .host ∧ s.phase = .idle ∧ ∃ r rest i, s.requests = r :: rest ∧ decodeRequest r = .ok i ∧
      exec i (s.setRequests rest) = .next t) ∨
    SameReadable s t := by
  cases a with
  | host =>
    obtain ⟨rfl, _⟩ | ⟨hp, issued⟩ := hostTurn_eq_next h
    · exact .inr (.inr (.inr (sameReadable_refl t)))
    · exact .inr (.inr (.inl ⟨rfl, hp, issued⟩))
  | sequencer =>
    cases h
    obtain ⟨hp, hd, e⟩ | same := sequencerStep_ends_or_sameReadable s
    · exact .inr (.inl ⟨rfl, hp, hd, e⟩)
    · exact .inr (.inr (.inr same))
  | timebase => cases h; exact .inr (.inr (.inr (tickStep_sameReadable s)))
  | peripheral b => cases h; exact .inr (.inr (.inr (rxByte_sameReadable s b)))
  | reset => cases h; exact .inl ⟨rfl, rfl⟩

/-- The same of a step, which is one agent's turn. -/
theorem step_writes_or_sameReadable {s t : State} (h : step s = .next t) :
    (s.nextTurn.1 = .reset ∧ t = s.takeTurn.resetBlock) ∨
    (s.nextTurn.1 = .sequencer ∧ s.phase = .drain ∧ decodeRx (s.rxFifo.take 10) = none ∧
      t = completeCommand (s.takeTurn.rxDrop 10)) ∨
    (s.nextTurn.1 = .host ∧ s.phase = .idle ∧ ∃ r rest i, s.requests = r :: rest ∧
      decodeRequest r = .ok i ∧ exec i (s.takeTurn.setRequests rest) = .next t) ∨
    SameReadable s t := by
  obtain reset | ends | issues | same := agentTurn_writes_or_sameReadable h
  · exact .inl reset
  · exact .inr (.inl ends)
  · exact .inr (.inr (.inl issues))
  · exact .inr (.inr (.inr { same with }))

theorem completeCommand_session (s : State) :
    (completeCommand s).curdev = s.curdev ∧ (completeCommand s).cureq = s.cureq := by
  obtain ⟨_, e⟩ | ⟨_, _, e⟩ | ⟨_, _, e⟩ := completeCommand_cases s <;> rw [e] <;> simp

/-- The completion action leaves FAULT_INIT, or it is that of INIT with no answer (R290). -/
theorem completeCommand_faultInit (s : State) :
    (completeCommand s).faultInit = s.faultInit ∨
    (s.cmdSel = .init ∧ s.lastValid = false ∧ completeCommand s = s.raiseInitFailure) := by
  obtain ⟨_, e⟩ | ⟨_, _, e⟩ | ⟨hv, hi, e⟩ := completeCommand_cases s
  · rw [e]; exact .inl rfl
  · rw [e]; exact .inl rfl
  · exact .inr ⟨hi, hv, e⟩

/-- An `issue` writes the session registers only as DEVSEL, INIT and EQSET do (R34, R35). -/
theorem exec_session {i : Instr} {s t : State} (h : exec i s = .next t) :
    (t.curdev ≠ s.curdev → i.sel ∈ [.devsel, .init] ∧ deviceOfArg i.arg = some t.curdev) ∧
    (t.cureq ≠ s.cureq → i.sel = .eqset ∧ t.cureq = equalizerOfIndex (coerce i.arg.toInt)) := by
  obtain ⟨_, ⟨_, _, _, _, rfl, _, _, hdevice, hequalizer, _⟩ | ⟨rfl, _⟩⟩ := exec_eq_next h
  · exact ⟨hdevice, hequalizer⟩
  · exact ⟨fun hne => absurd rfl hne, fun hne => absurd rfl hne⟩

theorem exec_faultInit {i : Instr} {s t : State} (h : exec i s = .next t) :
    t.faultInit = s.faultInit := by
  obtain ⟨_, ⟨_, _, _, _, rfl, _⟩ | ⟨rfl, _⟩⟩ := exec_eq_next h <;> rfl

/-- Settles O43: of the steps but `reset` only an `issue` writes CURDEV or CUREQ. -/
theorem sessionRegistersChangeOnlyByTheirSetters :
    Obligations.SessionRegistersChangeOnlyByTheirSetters := by
  unfold Obligations.SessionRegistersChangeOnlyByTheirSetters
  intro s t h hnoReset
  obtain ⟨hreset, _⟩ | ⟨_, _, _, rfl⟩ | ⟨hhost, hp, r, rest, i, hr, hd, hexec⟩ | same :=
    step_writes_or_sameReadable h
  · exact absurd hreset hnoReset
  · obtain ⟨hcurdev, hcureq⟩ := completeCommand_session (s.takeTurn.rxDrop 10)
    exact ⟨fun hne => absurd hcurdev hne, fun hne => absurd hcureq hne⟩
  · obtain ⟨hdevice, hequalizer⟩ := exec_session hexec
    constructor
    · intro hne
      obtain ⟨hsel, harg⟩ := hdevice hne
      exact ⟨hhost, hp, r, rest, i, hr, hd, hsel, harg⟩
    · intro hne
      obtain ⟨hsel, hsetting⟩ := hequalizer hne
      refine ⟨hhost, hp, r, rest, i, hr, hd, hsel, ?_⟩
      rw [hsetting, equalizerIndex_equalizerOfIndex (coerce_le _)]
  · exact ⟨fun hne => absurd same.curdev hne, fun hne => absurd same.cureq hne⟩

/-- Settles O44: of the steps but `reset` and the end of a drain only an `issue` that skips writes a
result register. -/
theorem resultRegistersChangeOnlyAtCompletion :
    Obligations.ResultRegistersChangeOnlyAtCompletion := by
  unfold Obligations.ResultRegistersChangeOnlyAtCompletion
  intro s t h hnoReset hnoEnd hnoSkip
  obtain ⟨hreset, _⟩ | ⟨hseq, hp, hd, _⟩ | ⟨hhost, hp, r, rest, i, hr, hd, hexec⟩ | same :=
    step_writes_or_sameReadable h
  · exact absurd hreset hnoReset
  · exact absurd ⟨hseq, hp, hd⟩ hnoEnd
  · obtain ⟨_, ⟨_, _, _, _, rfl, _⟩ | ⟨_, hskip⟩⟩ := exec_eq_next hexec
    · exact ⟨rfl, rfl, rfl, rfl⟩
    · exact absurd ⟨hhost, hp, r, rest, i, hr, hd, hskip⟩ hnoSkip
  · exact ⟨same.resValid, same.resOp, same.resDw, same.resVal⟩

/-- Settles O45: of the steps but `reset` only the end of INIT's drain writes FAULT_INIT. -/
theorem faultIsRaisedOnlyByInit : Obligations.FaultIsRaisedOnlyByInit := by
  unfold Obligations.FaultIsRaisedOnlyByInit
  intro s t h hne
  obtain ⟨hreset, rfl⟩ | ⟨hseq, hp, hd, rfl⟩ | ⟨_, _, _, _, _, _, _, hexec⟩ | same :=
    step_writes_or_sameReadable h
  · exact .inl ⟨hreset, rfl⟩
  · obtain hsame | ⟨hi, hv, e⟩ := completeCommand_faultInit (s.takeTurn.rxDrop 10)
    · exact absurd hsame hne
    · rw [e]
      exact .inr ⟨hseq, hp, hi, hv, hd, rfl, rfl⟩
  · exact absurd (exec_faultInit hexec) hne
  · exact absurd same.faultInit hne

/-! ### Single steps and the start -/

/-- The host's turn in IDLE, whichever rule of the model names it (log 12). -/
theorem step_issues {s : State} {r : PortRequest} {rest : List PortRequest} {i : Instr}
    (hp : s.phase = .idle) (hr : s.requests = r :: rest) (hd : decodeRequest r = .ok i)
    (hhost : s.nextTurn.1 = .host) : step s = exec i (s.takeTurn.setRequests rest) := by
  rw [step_eq, hhost]
  exact hostTurn_issues hp hr hd

/-- Settles O17: the three ways of naming the host give the same turn, and differ in the turns left. -/
theorem stepRunsTheIssuedCommand : Obligations.StepRunsTheIssuedCommand := by
  unfold Obligations.StepRunsTheIssuedCommand
  intro s r rest i hp hr hd
  refine ⟨step_issues hp hr hd, fun ts hts => ?_, fun hts hafter => ?_⟩
  · rw [step_of_turns hts]
    exact hostTurn_issues hp hr hd
  · have due : s.defaultAgent = .host := by
      unfold State.defaultAgent
      rw [hp]
    rw [step_of_no_turns hts hafter, due]
    exact hostTurn_issues hp hr hd

/-- Settles O26, by whether the buffer has room. -/
theorem receivedByteIsAppendedOrLost : Obligations.ReceivedByteIsAppendedOrLost := by
  unfold Obligations.ReceivedByteIsAppendedOrLost
  intro s b ts hts
  rw [step_of_turns hts]
  refine ⟨fun room => ?_, fun c hc full => ?_⟩
  · refine congrArg Host.Outcome.next (rxByte_appends (s := s.setTurns ts) fun c hc => ?_)
    obtain unbounded | ⟨c', hc', hlt⟩ := room
    · cases unbounded.symm.trans hc
    · cases hc'.symm.trans hc
      exact hlt
  · exact congrArg Host.Outcome.next (rxByte_loses (s := s.setTurns ts) hc full)

/-- Settles O28: each field of the start state is written out in `State.reset`. -/
theorem startStateHoldsTheResetValues : Obligations.StartStateHoldsTheResetValues := by
  unfold Obligations.StartStateHoldsTheResetValues
  exact ⟨rfl, rfl, rfl, rfl, rfl, rfl, rfl, rfl, rfl, rfl, rfl, rfl, rfl⟩

theorem ready_iff (s : State) : s.ready = true ↔ s.phase = .idle := by simp [State.ready]

theorem isStopped_iff (s : State) :
    s.isStopped = true ↔ s.resValid = true ∧ s.resDw = 0x0200 := by
  simp [State.isStopped, statusStopped]

theorem isPlaying_iff (s : State) :
    s.isPlaying = true ↔ s.resValid = true ∧ s.resDw = 0x0201 := by
  simp [State.isPlaying, statusPlaying]

theorem isPaused_iff (s : State) :
    s.isPaused = true ↔ s.resValid = true ∧ s.resDw = 0x0202 := by
  simp [State.isPaused, statusPaused]

/-- RES_DW equals one status word at most. -/
theorem status_exclusive (s : State) {v w : Word} (hvw : v ≠ w) :
    ¬ ((s.resValid = true ∧ s.resDw = v) ∧ s.resValid = true ∧ s.resDw = w) := by
  rintro ⟨⟨_, hv⟩, _, hw⟩
  exact hvw (hv.symm.trans hw)

/-- Settles O29: the three status words differ. -/
theorem playbackStateIsExactEquality : Obligations.PlaybackStateIsExactEquality := by
  unfold Obligations.PlaybackStateIsExactEquality
  intro s
  refine ⟨ready_iff s, isStopped_iff s, isPlaying_iff s, isPaused_iff s, ?_⟩
  rw [isStopped_iff, isPlaying_iff, isPaused_iff]
  exact ⟨status_exclusive s (by decide), status_exclusive s (by decide),
    status_exclusive s (by decide)⟩

end Sys2Proof.Proofs.Registers

/-! PROOFS. The two byte streams and the order of the two data bytes of a frame (spec/20_memory.md): which
agent's turn may change a stream and how, how a word is split on the way out, and that a word comes back
with its bytes swapped. -/

namespace Sys2Proof.Proofs.Memory

open Sys2Proof Sys2Proof.Machine

/-! ### Which turn changes a stream (R62, R64, R71, R77) -/

/-- TXLOG and RXFIFO are in `t` as in `s`. -/
structure SameStreams (s t : State) : Prop where
  txLog : t.txLog = s.txLog
  rxFifo : t.rxFifo = s.rxFifo

theorem sameStreams_refl (s : State) : SameStreams s s := ⟨rfl, rfl⟩

theorem exec_sameStreams {i : Instr} {s t : State} (h : exec i s = .next t) : SameStreams s t := by
  obtain ⟨_, ⟨_, _, _, _, rfl, _⟩ | ⟨rfl, _⟩⟩ := exec_eq_next h <;> exact ⟨rfl, rfl⟩

/-- The host issues commands and touches neither stream. -/
theorem hostTurn_sameStreams {s t : State} (h : hostTurn s = .next t) : SameStreams s t := by
  obtain ⟨rfl, _⟩ | ⟨_, _, _, _, _, _, hexec⟩ := hostTurn_eq_next h
  · exact sameStreams_refl t
  · exact { exec_sameStreams hexec with }

theorem tickStep_sameStreams (s : State) : SameStreams s (tickStep s) := by
  obtain ⟨_, _, e⟩ | e := tickStep_cases s <;> rw [e] <;> exact ⟨rfl, rfl⟩

theorem settledStep_sameStreams (s : State) : SameStreams s (settledStep s) := by
  obtain ⟨_, e⟩ | ⟨_, _, _, e⟩ | ⟨_, _, e⟩ := settledStep_cases s <;> rw [e] <;> exact ⟨rfl, rfl⟩

/-- The last byte of a frame and the bytes before it go out alike (R62, R135). -/
theorem txByteStep_streams (s : State) :
    (txByteStep s).txLog = s.txLog ++ [s.nextTxByte] ∧ (txByteStep s).rxFifo = s.rxFifo := by
  obtain ⟨_, e⟩ | ⟨_, e⟩ := txByteStep_cases s <;> rw [e] <;> exact ⟨rfl, rfl⟩

/-- However a drain attempt goes, its chunk is gone from the buffer (R64, R145). -/
theorem drainAttempt_streams (s : State) :
    (drainAttempt s).txLog = s.txLog ∧ (drainAttempt s).rxFifo = s.rxFifo.drop 10 := by
  obtain ⟨_, _, _, e⟩ | ⟨_, _, e⟩ | ⟨_, _, _, e⟩ | ⟨_, _, _, e⟩ := drainAttempt_cases s <;> rw [e] <;>
    exact ⟨rfl, rfl⟩

/-- Everything the sequencer's turn can do to the streams: send in TX, read in DRAIN. -/
theorem sequencerStep_streams (s : State) :
    (s.phase = .tx ∧ (sequencerStep s).txLog = s.txLog ++ [s.nextTxByte] ∧
      (sequencerStep s).rxFifo = s.rxFifo) ∨
    (s.phase = .drain ∧ (sequencerStep s).txLog = s.txLog ∧
      (sequencerStep s).rxFifo = s.rxFifo.drop 10) ∨
    SameStreams s (sequencerStep s) := by
  obtain ⟨hp, e⟩ | ⟨_, _, e⟩ | ⟨_, _, e⟩ | ⟨hp, e⟩ | ⟨_, e⟩ := sequencerStep_cases s <;> rw [e]
  · exact .inl ⟨hp, txByteStep_streams s⟩
  · exact .inr (.inr (sameStreams_refl s))
  · exact .inr (.inr (settledStep_sameStreams s))
  · exact .inr (.inl ⟨hp, drainAttempt_streams s⟩)
  · exact .inr (.inr (sameStreams_refl s))

/-- An arriving byte goes to the end of RXFIFO, or it is lost (R48). -/
theorem rxByte_streams (s : State) (b : Byte) :
    ((s.rxByte b).txLog = s.txLog ∧ (s.rxByte b).rxFifo = s.rxFifo ++ [b]) ∨
    SameStreams s (s.rxByte b) := by
  obtain ⟨e, _⟩ | ⟨e, _⟩ := rxByte_cases s b <;> rw [e]
  · exact .inl ⟨rfl, rfl⟩
  · exact .inr (sameStreams_refl s)

/-- Everything an agent's turn can do to the streams; `reset` is not among the agents that write them
(R322). -/
theorem agentTurn_streams {a : Agent} {s t : State} (h : agentTurn a s = .next t) :
    (a = .sequencer ∧ s.phase = .tx ∧ t.txLog = s.txLog ++ [s.nextTxByte] ∧ t.rxFifo = s.rxFifo) ∨
    (a = .sequencer ∧ s.phase = .drain ∧ t.txLog = s.txLog ∧ t.rxFifo = s.rxFifo.drop 10) ∨
    (∃ b, a = .peripheral b ∧ t.txLog = s.txLog ∧ t.rxFifo = s.rxFifo ++ [b]) ∨
    SameStreams s t := by
  cases a with
  | host => exact .inr (.inr (.inr (hostTurn_sameStreams h)))
  | sequencer =>
    cases h
    obtain sends | reads | same := sequencerStep_streams s
    · exact .inl ⟨rfl, sends⟩
    · exact .inr (.inl ⟨rfl, reads⟩)
    · exact .inr (.inr (.inr same))
  | timebase => cases h; exact .inr (.inr (.inr (tickStep_sameStreams s)))
  | peripheral b =>
    cases h
    obtain arrives | same := rxByte_streams s b
    · exact .inr (.inr (.inl ⟨b, rfl, arrives⟩))
    · exact .inr (.inr (.inr same))
  | reset => cases h; exact .inr (.inr (.inr ⟨rfl, rfl⟩))

/-- Settles O46: a step is one agent's turn, and taking the turn moves neither stream. The byte that goes
out is a byte of the frame since TXIDX has three bits and the frame eight bytes. -/
theorem streamsAreTouchedOnlyByTheirOwners : Obligations.StreamsAreTouchedOnlyByTheirOwners := by
  unfold Obligations.StreamsAreTouchedOnlyByTheirOwners
  intro s t h
  obtain ⟨hseq, hp, htx, hrx⟩ | ⟨hseq, hp, htx, hrx⟩ | ⟨b, hper, htx, hrx⟩ | same :=
    agentTurn_streams h
  · exact ⟨.inr ⟨hseq, hp, s.nextTxByte, nextTxByte_getElem s, htx⟩, .inl hrx⟩
  · exact ⟨.inl htx, .inr (.inl ⟨hseq, hp, hrx⟩)⟩
  · exact ⟨.inl htx, .inr (.inr ⟨b, hper, hrx⟩)⟩
  · exact ⟨.inl same.txLog, .inl same.rxFifo⟩

/-! ### The two data bytes of a frame (R66 to R68) -/

theorem toNat_loByte (w : Word) : (loByte w).toNat = w.toNat % 256 := by
  rw [loByte_eq_mod, BitVec.toNat_ofNat, Nat.mod_mod]

theorem toNat_hiByte (w : Word) : (hiByte w).toNat = w.toNat / 256 := by
  have hw : w.toNat < 65536 := w.isLt
  rw [hiByte_eq_div, BitVec.toNat_ofNat]
  omega

@[simp] theorem loByte_setWidth (v : Byte) : loByte (v.setWidth 16) = v := by
  apply BitVec.eq_of_toNat_eq
  have hv : v.toNat < 256 := v.isLt
  rw [toNat_loByte, BitVec.toNat_setWidth]
  omega

@[simp] theorem hiByte_setWidth (v : Byte) : hiByte (v.setWidth 16) = 0x00 := by
  apply BitVec.eq_of_toNat_eq
  have hv : v.toNat < 256 := v.isLt
  have hzero : (0x00 : Byte).toNat = 0 := rfl
  rw [toNat_hiByte, BitVec.toNat_setWidth, hzero]
  omega

/-- A one-byte operand is the low byte of its word (R66). -/
theorem txFrame_setWidth (op v : Byte) : txFrame op (v.setWidth 16) = encodeTx op v 0x00 := by
  unfold txFrame
  rw [loByte_setWidth, hiByte_setWidth]

theorem txFrame_getElem_lo (op : Byte) (w : Word) : (txFrame op w)[5]? = some (loByte w) := rfl

theorem txFrame_getElem_hi (op : Byte) (w : Word) : (txFrame op w)[6]? = some (hiByte w) := rfl

/-- Settles O2, by what the low and the high byte of a word are as numbers. -/
theorem transmitSplitsTheWordLowByteFirst : Obligations.TransmitSplitsTheWordLowByteFirst := by
  unfold Obligations.TransmitSplitsTheWordLowByteFirst
  refine ⟨fun op w => ?_, txFrame_setWidth⟩
  rw [← loByte_eq_mod, ← hiByte_eq_div]
  exact ⟨txFrame_getElem_lo op w, txFrame_getElem_hi op w, rfl⟩

/-- Ten bytes with the four fixed ones in place decode, whatever the flag byte and the two unused bytes
are; the first data byte is the high one (R67, R98, R99). -/
theorem decodeRx_frame (op f hi lo x y : Byte) :
    decodeRx [0x7E, 0xFF, 0x06, op, f, hi, lo, x, y, 0xEF] = some (op, hi ++ lo) := by
  unfold decodeRx
  exact if_pos ⟨rfl, rfl, rfl, rfl⟩

/-- The data bytes of a transmit frame, as they stand in it. -/
theorem txFrame_data (op : Byte) (w : Word) :
    ((txFrame op w).drop 5).take 2 = [loByte w, hiByte w] := rfl

/-- A transmit frame is two bytes short of a receive frame (R99). -/
theorem decodeRx_txFrame (op : Byte) (w : Word) : decodeRx (txFrame op w) = none := by
  cases h : decodeRx (txFrame op w) with
  | none => rfl
  | some r =>
    have hlen : (txFrame op w).length = 10 := decodeRx_length h
    rw [length_txFrame] at hlen
    exact absurd hlen (by decide)

/-- Settles O4: the word that comes back has the low byte of the one sent as its high byte. -/
theorem directionsDisagreeByAByteSwap : Obligations.DirectionsDisagreeByAByteSwap := by
  unfold Obligations.DirectionsDisagreeByAByteSwap
  intro op f x y w
  refine ⟨⟨loByte w ++ hiByte w, ?_, ?_⟩, decodeRx_txFrame op w⟩
  · rw [toNat_append_bytes, toNat_loByte, toNat_hiByte]
  · rw [txFrame_data]
    exact decodeRx_frame op f (loByte w) (hiByte w) x y

end Sys2Proof.Proofs.Memory

/-! PROOFS. The frame codec and the two encodings of a command (spec/30_encoding.md): which bytes are a
frame, which command a transmit frame stands for, and which requests the port accepts. -/

namespace Sys2Proof.Proofs.Encoding

open Sys2Proof Sys2Proof.Machine Sys2Proof.Claims

/-! ### The codec of the two formats -/

/-- Settles O1, by writing the frame out. -/
theorem encodeIsTheEightByteFrame : Obligations.EncodeIsTheEightByteFrame := by
  unfold Obligations.EncodeIsTheEightByteFrame
  exact ⟨fun op lo hi => ⟨rfl, rfl, rfl⟩, fun op => Memory.txFrame_setWidth op 0⟩

/-- The receive frames: the fixed bytes in place, and the data word high byte first (R67, R92, R98). -/
theorem decodeRx_eq_some_iff {buf : List Byte} {op : Byte} {dw : Word} :
    decodeRx buf = some (op, dw) ↔
      ∃ f hi lo x y, buf = [0x7E, 0xFF, 0x06, op, f, hi, lo, x, y, 0xEF] ∧ dw = hi ++ lo := by
  constructor
  · intro h
    unfold decodeRx at h
    split at h
    case h_2 => cases h
    case h_1 b0 b1 b2 op' f hi lo x y b9 =>
      split at h
      case isFalse => cases h
      case isTrue fixed =>
        obtain ⟨rfl, rfl, rfl, rfl⟩ := fixed
        cases h
        exact ⟨f, hi, lo, x, y, rfl, rfl⟩
  · rintro ⟨f, hi, lo, x, y, rfl, rfl⟩
    exact Memory.decodeRx_frame op f hi lo x y

/-- Ten bytes are the ones at their ten offsets. -/
theorem eq_bytes_of_length {buf : List Byte} (h : buf.length = 10) :
    ∃ b0 b1 b2 b3 b4 b5 b6 b7 b8 b9, buf = [b0, b1, b2, b3, b4, b5, b6, b7, b8, b9] := by
  match buf, h with
  | [b0, b1, b2, b3, b4, b5, b6, b7, b8, b9], _ => exact ⟨b0, b1, b2, b3, b4, b5, b6, b7, b8, b9, rfl⟩

/-- Settles O3: a buffer is given by its length and the bytes at its offsets. -/
theorem decodeAcceptsExactlyTheReceiveFrames : Obligations.DecodeAcceptsExactlyTheReceiveFrames := by
  unfold Obligations.DecodeAcceptsExactlyTheReceiveFrames
  intro buf op dw
  rw [decodeRx_eq_some_iff]
  constructor
  · rintro ⟨f, hi, lo, x, y, rfl, rfl⟩
    exact ⟨rfl, rfl, rfl, rfl, rfl, rfl, hi, lo, rfl, rfl, toNat_append_bytes hi lo⟩
  · rintro ⟨hlen, h0, h1, h2, h9, h3, hi, lo, h5, h6, hdw⟩
    obtain ⟨b0, b1, b2, b3, f, b5, b6, x, y, b9, rfl⟩ := eq_bytes_of_length hlen
    cases h0; cases h1; cases h2; cases h3; cases h5; cases h6; cases h9
    exact ⟨f, hi, lo, x, y, rfl, BitVec.eq_of_toNat_eq (hdw.trans (toNat_append_bytes hi lo).symm)⟩

/-! ### Selectors, opcodes and arguments -/

@[simp] theorem sel_instr (x : Sel) (a : Word) : (x.instr a).sel = x := by
  cases x <;> rfl

/-- A command is its selector with its argument (R112). -/
@[simp] theorem instr_sel_arg (i : Instr) : i.sel.instr i.arg = i := by
  cases i <;> rfl

/-- The opcode map and the opcode column are inverse to each other (R101). -/
theorem ofOpcode_eq_some_iff {op : Byte} {x : Sel} :
    Sel.ofOpcode op = some x ↔ x.opcode = some op :=
  ⟨fun h => by simpa using List.find?_some h, Sel.ofOpcode_opcode⟩

/-- The opcode column holds the 28 listed opcodes and no other (R101, R103). -/
theorem listed_of_opcode {x : Sel} {op : Byte} (h : x.opcode = some op) :
    op ∈ [0x01, 0x02, 0x03, 0x04, 0x05, 0x06, 0x07, 0x08, 0x09, 0x0A, 0x0C, 0x0D, 0x0E, 0x0F, 0x11,
      0x12, 0x16, 0x17, 0x18, 0x19, 0x1A, 0x42, 0x43, 0x44, 0x47, 0x48, 0x49, (0x4E : Byte)] := by
  cases x <;> simp [Sel.opcode] at h <;> subst h <;> decide

/-! ### Devices -/

/-- The codes 5, 6 and 7 hold no device (log 9). -/
theorem deviceOfArg_eq_none {a : Word} (h : 5 ≤ a.toNat % 8) : deviceOfArg a = none := by
  unfold deviceOfArg
  split
  case h_6 => rfl
  all_goals omega

/-- The codes without upper bits are the ones that the model gives the devices (log 9). -/
theorem exists_argOfDevice {a : Word} (h : a.toNat ≤ 4) : ∃ d, a = argOfDevice d := by
  obtain ⟨n, hn, rfl⟩ : ∃ n ≤ 4, a = BitVec.ofNat 16 n := ⟨a.toNat, h, by simp⟩
  interval_cases n
  exacts [⟨.usb, rfl⟩, ⟨.sd, rfl⟩, ⟨.aux, rfl⟩, ⟨.sleep, rfl⟩, ⟨.flash, rfl⟩]

/-- An injective DEVICE_CODE tells the devices apart (R231). -/
theorem deviceByte_injective {dc : DeviceCode} (h : distinctDeviceBytes dc) :
    Function.Injective (deviceByte dc) := by
  have onList := List.inj_on_of_nodup_map (f := deviceByte dc)
    (l := [.usb, .sd, .aux, .sleep, .flash]) h
  have listed : ∀ d : Device, d ∈ [Device.usb, .sd, .aux, .sleep, .flash] := by
    intro d; cases d <;> decide
  exact fun d e hde => onList (listed d) (listed e) hde

/-- The byte of a device stands for some device, whatever the DEVICE_CODE. -/
theorem deviceOfByte_isSome (dc : DeviceCode) (d : Device) :
    ∃ e, deviceOfByte dc (deviceByte dc d) = some e := by
  rw [← Option.isSome_iff_exists, deviceOfByte, List.find?_isSome]
  exact ⟨d, by cases d <;> decide, by simp⟩

/-- Under an injective DEVICE_CODE the byte of a device stands for that device (R231). -/
theorem deviceOfByte_deviceByte {dc : DeviceCode} (h : distinctDeviceBytes dc) (d : Device) :
    deviceOfByte dc (deviceByte dc d) = some d := by
  obtain ⟨e, he⟩ := deviceOfByte_isSome dc d
  rw [he, deviceByte_injective h (deviceByte_of_deviceOfByte he)]

/-! ### Small operands -/

theorem toInt_ofNat_of_lt {n : Nat} (h : n < 32768) : (BitVec.ofNat 16 n).toInt = n := by
  have : (BitVec.ofNat 16 n).toNat = n := Nat.mod_eq_of_lt (by omega)
  rw [BitVec.toInt_eq_toNat_of_lt (by omega), this]

/-- A word below 256 goes out as its one byte at offset 5 (R66). -/
theorem loByte_ofNat {n : Nat} (h : n < 256) : (loByte (BitVec.ofNat 16 n)).toNat = n := by
  rw [Memory.toNat_loByte]
  simp
  omega

theorem hiByte_ofNat {n : Nat} (h : n < 256) : hiByte (BitVec.ofNat 16 n) = 0 := by
  apply BitVec.eq_of_toNat_eq
  rw [Memory.toNat_hiByte]
  simp
  omega

/-- A data word whose high byte is zero is the number that its low byte is. -/
theorem frameWord_zero (lo : Byte) : frameWord lo 0 = BitVec.ofNat 16 lo.toNat := by
  apply BitVec.eq_of_toNat_eq
  rw [frameWord, toNat_append_bytes]
  simp
  omega

/-- Less than half a unit from `u`, a number of hundredths rounds to `u` under both tie rules (R11). -/
theorem roundDiv_hundred {tie : RoundTie} {n u : Nat} (above : 100 * u < n + 50)
    (below : n < 100 * u + 50) : roundDiv tie n 100 = u := by
  unfold roundDiv
  split
  · omega
  · split <;> omega

theorem roundDiv_hundred_le {tie : RoundTie} {n : Nat} (h : n ≤ 3000) : roundDiv tie n 100 ≤ 30 := by
  unfold roundDiv
  split
  · omega
  · split
    · omega
    · cases tie <;> dsimp only <;> omega

theorem clamp_of_mem {v lo hi : Int} (hlo : lo ≤ v) (hhi : v ≤ hi) : clamp v lo hi = v := by
  unfold clamp
  rw [if_neg (by omega), if_neg (by omega)]

theorem units_le (tie : RoundTie) (p : Int) : units tie p ≤ 30 := by
  have : clamp p 0 100 ≤ 100 := by unfold clamp; split <;> omega
  exact roundDiv_hundred_le (by omega)

/-- The percentage that stands for `u` units is scaled back to `u` units under both tie rules (R195). -/
theorem units_percent (tie : RoundTie) {u : Nat} (h : u ≤ 30) : units tie (percent u) = u := by
  have hp : percent u ≤ 100 := by unfold percent; omega
  rw [units, clamp_of_mem (by omega) (by omega), Int.toNat_natCast]
  apply roundDiv_hundred <;> unfold percent <;> omega

/-- `units_percent` of the percentage as an argument carries it. -/
theorem units_toInt_percent (tie : RoundTie) {u : Nat} (h : u ≤ 30) :
    units tie (BitVec.ofNat 16 (percent u)).toInt = u := by
  have hp : percent u ≤ 100 := by unfold percent; omega
  rw [toInt_ofNat_of_lt (by omega), units_percent tie h]

theorem coerce_ofNat {n : Nat} (h : n ≤ 5) : coerce (BitVec.ofNat 16 n).toInt = n := by
  rw [toInt_ofNat_of_lt (by omega), coerce, if_pos (by omega), Int.toNat_natCast]

/-- An argument of a one-bit operand that carries no other bit (R112). -/
theorem eq_zero_or_one {n : Nat} {v : BitVec n} (h : v.toNat ≤ 1) : v = 0 ∨ v = 1 := by
  obtain ⟨k, hk, rfl⟩ : ∃ k ≤ 1, v = BitVec.ofNat n k := ⟨v.toNat, h, by simp⟩
  interval_cases k
  · exact .inl rfl
  · exact .inr rfl

/-! ### The operand of a frame -/

theorem guarded_eq_ok_iff {c : Prop} [Decidable c] {a b : Word} {e : DecodeError} :
    (if c then Except.ok a else .error e) = .ok b ↔ c ∧ a = b := by
  split <;> simp [*]

/-- The data word of `u` units is read back as `percent(u)` (R198). -/
theorem frameArg_volset (dc : DeviceCode) {u : Nat} (h : u ≤ 30) :
    frameArg dc .volset (loByte (BitVec.ofNat 16 u)) (hiByte (BitVec.ofNat 16 u)) =
      .ok (BitVec.ofNat 16 (percent u)) := by
  have hlo := loByte_ofNat (n := u) (by omega)
  exact guarded_eq_ok_iff.mpr ⟨⟨hiByte_ofNat (by omega), by rwa [hlo]⟩, by rw [hlo]⟩

/-- The data word of an equalizer index is read back as that index. -/
theorem frameArg_eqset (dc : DeviceCode) {n : Nat} (h : n ≤ 5) :
    frameArg dc .eqset (loByte (BitVec.ofNat 16 n)) (hiByte (BitVec.ofNat 16 n)) =
      .ok (BitVec.ofNat 16 n) :=
  guarded_eq_ok_iff.mpr ⟨⟨hiByte_ofNat (by omega), by rwa [loByte_ofNat (by omega)]⟩,
    hiByte_append_loByte _⟩

/-- A device byte is read back as the code of the device it stands for (R231). -/
theorem frameArg_devsel {dc : DeviceCode} {b : Byte} {d : Device} (h : deviceOfByte dc b = some d) :
    frameArg dc .devsel (loByte (b.setWidth 16)) (hiByte (b.setWidth 16)) = .ok (argOfDevice d) := by
  rw [Memory.loByte_setWidth, Memory.hiByte_setWidth]
  simp [frameArg, h]

/-- A device selection is read back only from the byte of a device, in the low byte. -/
theorem frameArg_devsel_eq_ok {dc : DeviceCode} {lo hi : Byte} {a : Word}
    (h : frameArg dc .devsel lo hi = .ok a) :
    ∃ d, hi = 0 ∧ deviceOfByte dc lo = some d ∧ a = argOfDevice d := by
  unfold frameArg at h
  dsimp only at h
  split at h
  case isFalse => cases h
  case isTrue hhi =>
    split at h
    case h_1 d hd => cases h; exact ⟨d, hhi, hd, rfl⟩
    case h_2 => cases h

/-- The word of every command that sends one has an operand that reads it back: the decoder leaves out
no data word that is sent (R101). -/
theorem exists_frameArg {p : Params} {i : Instr} {w : Word} (h : i.dataWord p = some w) :
    ∃ a, frameArg p.deviceCode i.sel (loByte w) (hiByte w) = .ok a := by
  cases i
  case volset a => cases h; exact ⟨_, frameArg_volset _ (units_le _ _)⟩
  case eqset a => cases h; exact ⟨_, frameArg_eqset _ (Registers.coerce_le _)⟩
  case loopall a | loopone a | dac a => cases h; cases argOn a <;> exact ⟨_, rfl⟩
  case devsel a =>
    obtain ⟨d, _, rfl⟩ := Option.map_eq_some_iff.mp h
    obtain ⟨e, he⟩ := deviceOfByte_isSome p.deviceCode d
    exact ⟨_, frameArg_devsel he⟩
  case lpoff | init | fcnt | fcntc => cases h
  all_goals cases h; exact ⟨_, rfl⟩

/-- The operand that the decoder reads makes its command send the data word that was read (R101). -/
theorem dataWord_of_frameArg {p : Params} {x : Sel} {lo hi : Byte} {a : Word}
    (h : frameArg p.deviceCode x lo hi = .ok a) :
    (x.instr a).dataWord p = some (frameWord lo hi) := by
  cases x
  case playidx | playft | playfold | loopfold | qffold => cases h; rfl
  case volset =>
    obtain ⟨⟨rfl, hlo⟩, rfl⟩ := guarded_eq_ok_iff.mp h
    rw [frameWord_zero, Sel.instr, Instr.dataWord, units_toInt_percent _ hlo]
  case eqset =>
    obtain ⟨⟨rfl, hlo⟩, rfl⟩ := guarded_eq_ok_iff.mp h
    rw [frameWord_zero, Sel.instr, Instr.dataWord, coerce_ofNat hlo]
  case loopall | loopone | dac =>
    obtain ⟨⟨rfl, hlo⟩, rfl⟩ := guarded_eq_ok_iff.mp h
    obtain rfl | rfl := eq_zero_or_one hlo <;> rfl
  case devsel =>
    obtain ⟨d, rfl, hd, rfl⟩ := frameArg_devsel_eq_ok h
    rw [frameWord_zero, Sel.instr, Instr.dataWord, deviceOfArg_argOfDevice, Option.map_some,
      deviceByte_of_deviceOfByte hd, BitVec.ofNat_toNat]
  case lpoff | init | fcnt | fcntc => cases h
  all_goals
    obtain ⟨⟨rfl, rfl⟩, rfl⟩ := guarded_eq_ok_iff.mp h
    rfl

/-- The data word of a canonical command is read back as the argument of that very command. -/
theorem frameArg_of_canonical {p : Params} {i : Instr} (hdc : distinctDeviceBytes p.deviceCode)
    (h : canonical i) :
    ∃ w, i.dataWord p = some w ∧
      frameArg p.deviceCode i.sel (loByte w) (hiByte w) = .ok i.arg := by
  cases i
  case playidx a | playft a | playfold a | loopfold a | qffold a =>
    exact ⟨a, rfl, congrArg Except.ok (hiByte_append_loByte a)⟩
  case volset a =>
    obtain ⟨u, hu, rfl⟩ := h
    refine ⟨BitVec.ofNat 16 u, ?_, frameArg_volset _ hu⟩
    rw [Instr.dataWord, units_toInt_percent _ hu]
  case eqset a =>
    obtain ⟨n, hn, rfl⟩ : ∃ n ≤ 5, a = BitVec.ofNat 16 n := ⟨a.toNat, h, by simp⟩
    refine ⟨BitVec.ofNat 16 n, ?_, frameArg_eqset _ hn⟩
    rw [Instr.dataWord, coerce_ofNat hn]
  case loopall a | loopone a | dac a =>
    obtain rfl | rfl := eq_zero_or_one h <;> exact ⟨_, rfl, rfl⟩
  case devsel a =>
    obtain ⟨d, rfl⟩ := exists_argOfDevice h
    refine ⟨(deviceByte p.deviceCode d).setWidth 16, ?_,
      frameArg_devsel (deviceOfByte_deviceByte hdc d)⟩
    rw [Instr.dataWord, deviceOfArg_argOfDevice, Option.map_some]
  case lpoff | init | fcnt | fcntc => exact h.elim
  all_goals cases h; exact ⟨0, rfl, rfl⟩

/-- A well-formed wire command has a data word (R101). -/
theorem exists_dataWord {p : Params} {i : Instr} (hwf : i.wellFormed = true) (hw : i.sel ∈ Sel.wire) :
    ∃ w, i.dataWord p = some w := by
  cases i
  case devsel a =>
    obtain ⟨d, hd⟩ := Option.isSome_iff_exists.mp (show (deviceOfArg a).isSome = true from hwf)
    exact ⟨_, by rw [Instr.dataWord, hd, Option.map_some]⟩
  case lpoff | init | fcnt | fcntc => simp [Instr.sel, Sel.wire] at hw
  all_goals exact ⟨_, rfl⟩

/-! ### Transmit frames -/

/-- A command with a row in R101 has the frame of its opcode and its data word, and no other has one. -/
theorem encodeFrame_eq_some_iff {p : Params} {i : Instr} {bs : List Byte} :
    encodeFrame p i = some bs ↔
      ∃ op w, i.sel.opcode = some op ∧ i.dataWord p = some w ∧ txFrame op w = bs := by
  unfold encodeFrame
  cases i.sel.opcode <;> cases i.dataWord p <;> simp

/-- A command with a data word has a row in R101, and so an opcode. -/
theorem opcode_of_dataWord {p : Params} {i : Instr} {w : Word} (h : i.dataWord p = some w) :
    ∃ op, i.sel.opcode = some op := by
  cases i
  case lpoff | init | fcnt | fcntc => cases h
  all_goals exact ⟨_, rfl⟩

/-- What decodes is a frame with a listed opcode and an operand (R91, R101). -/
theorem decodeFrame_eq_ok {dc : DeviceCode} {bs : List Byte} {i : Instr}
    (h : decodeFrame dc bs = .ok i) :
    ∃ op lo hi x a, bs = encodeTx op lo hi ∧ Sel.ofOpcode op = some x ∧
      frameArg dc x lo hi = .ok a ∧ i = x.instr a := by
  unfold decodeFrame at h
  split at h
  case h_2 => cases h
  case h_1 b0 b1 b2 op fb lo hi b7 =>
    split_ifs at h with h0 h1 h2 h3 h4
    rw [not_ne_iff] at h0 h1 h2 h3 h4
    subst h0 h1 h2 h3 h4
    split at h
    case h_1 => cases h
    case h_2 x hx =>
      split at h
      case h_1 a ha => cases h; exact ⟨op, lo, hi, x, a, rfl, hx, ha, rfl⟩
      case h_2 => cases h

/-- A frame with a listed opcode and an operand decodes (R91, R101). -/
theorem decodeFrame_encodeTx {dc : DeviceCode} {op lo hi : Byte} {x : Sel} {a : Word}
    (hx : x.opcode = some op) (ha : frameArg dc x lo hi = .ok a) :
    decodeFrame dc (encodeTx op lo hi) = .ok (x.instr a) := by
  simp [decodeFrame, encodeTx, ofOpcode_eq_some_iff.mpr hx, ha]

/-- A command with a data word has a frame, which decodes to the command's selector with the operand that
is read from that word. -/
theorem encodeFrame_decodes {p : Params} {i : Instr} {w a : Word} (hw : i.dataWord p = some w)
    (ha : frameArg p.deviceCode i.sel (loByte w) (hiByte w) = .ok a) :
    ∃ bs, encodeFrame p i = some bs ∧ decodeFrame p.deviceCode bs = .ok (i.sel.instr a) := by
  obtain ⟨op, hop⟩ := opcode_of_dataWord hw
  exact ⟨txFrame op w, encodeFrame_eq_some_iff.mpr ⟨op, w, hop, hw, rfl⟩, decodeFrame_encodeTx hop ha⟩

/-- A frame whose opcode is no command's is rejected, whatever its data (R103). -/
theorem decodeFrame_unlisted {dc : DeviceCode} {op lo hi : Byte} (h : Sel.ofOpcode op = none) :
    decodeFrame dc (encodeTx op lo hi) = .error .unknownOpcode := by
  simp [decodeFrame, encodeTx, h]

/-- Settles O12: the operand that is read sends the data word it is read from. -/
theorem decodedFrameIsSentByItsCommand : Obligations.DecodedFrameIsSentByItsCommand := by
  unfold Obligations.DecodedFrameIsSentByItsCommand
  intro p bs i h
  obtain ⟨op, lo, hi, x, a, rfl, hx, ha, rfl⟩ := decodeFrame_eq_ok h
  refine encodeFrame_eq_some_iff.mpr ⟨op, frameWord lo hi, ?_, dataWord_of_frameArg ha, ?_⟩
  · rw [sel_instr, ofOpcode_eq_some_iff.mp hx]
  · rw [txFrame, frameWord, loByte_append, hiByte_append]

/-- Settles O13: the data word of a canonical command is read back as its own argument. -/
theorem encodedFrameDecodesToItsCommand : Obligations.EncodedFrameDecodesToItsCommand := by
  unfold Obligations.EncodedFrameDecodesToItsCommand
  intro p i hdc h
  obtain ⟨w, hw, ha⟩ := frameArg_of_canonical hdc h
  simpa using encodeFrame_decodes hw ha

/-- Settles O14: the word that a command sends has an operand, and by O12 that operand sends it. -/
theorem everyWireFrameDecodes : Obligations.EveryWireFrameDecodes := by
  unfold Obligations.EveryWireFrameDecodes
  intro p i hwf hwire
  obtain ⟨w, hw⟩ := exists_dataWord (p := p) hwf hwire
  obtain ⟨a, ha⟩ := exists_frameArg hw
  obtain ⟨bs, hbs, hdec⟩ := encodeFrame_decodes hw ha
  exact ⟨bs, i.sel.instr a, hbs, hdec, sel_instr _ _, decodedFrameIsSentByItsCommand p _ _ hdec⟩

/-- Settles O15: the opcode of a command is a listed one. -/
theorem unlistedOpcodesNameNoCommand : Obligations.UnlistedOpcodesNameNoCommand := by
  unfold Obligations.UnlistedOpcodesNameNoCommand
  intro dc op lo hi hop
  apply decodeFrame_unlisted
  cases hx : Sel.ofOpcode op with
  | none => rfl
  | some x => exact absurd (listed_of_opcode (ofOpcode_eq_some_iff.mp hx)) hop

/-- Settles O16, by reading the seven words. -/
theorem tableWordsDecode : Obligations.TableWordsDecode := by
  unfold Obligations.TableWordsDecode
  decide

/-! ### Port requests -/

theorem takesDevice_of_mem {x : Sel} (h : x ∈ [.devsel, .init, .fcnt]) : x.takesDevice = true := by
  revert x
  decide

/-- A request with a code of no mnemonic names no command (R105). -/
theorem decodeRequest_unknownSelector {r : PortRequest} (h : ∀ x : Sel, x.code ≠ r.code) :
    decodeRequest r = .error .unknownSelector := by
  have hcode : Sel.ofCode r.code = none := by simp [Sel.ofCode, List.find?_eq_none, h]
  simp [decodeRequest, hcode]

/-- A request of a device command without a device names no command (R105). -/
theorem decodeRequest_unknownDevice {r : PortRequest} {x : Sel} (hx : x.code = r.code)
    (htakes : x.takesDevice = true) (ha : deviceOfArg r.arg = none) :
    decodeRequest r = .error .unknownDevice := by
  have hcode : Sel.ofCode r.code = some x := hx ▸ Sel.ofCode_code x
  simp [decodeRequest, hcode, htakes, ha]

/-- Settles O10: the code is that of the command's selector, and selector and argument make the
command. -/
theorem requestRoundTrip : Obligations.RequestRoundTrip := by
  unfold Obligations.RequestRoundTrip
  intro i hwf
  have accepted : (i.sel.takesDevice && (deviceOfArg i.arg).isNone) = !i.wellFormed := by
    simp [Instr.wellFormed]
  rw [decodeRequest, encodeRequest, Sel.ofCode_code]
  dsimp only
  rw [if_neg (by rw [accepted, hwf]; decide), instr_sel_arg]

/-- In IDLE, at the host's turn, a request that names no command is refused by name (R105, U10). -/
theorem step_refuses {s : State} {r : PortRequest} {rest : List PortRequest} {ts : List Agent}
    {e : DecodeError} (hp : s.phase = .idle) (hr : s.requests = r :: rest)
    (ht : s.turns = .host :: ts) (hd : decodeRequest r = .error e) :
    step s = .refused (.notAccepted e) := by
  rw [step_of_turns ht]
  exact Registers.hostTurn_refuses hp hr hd

/-- Settles O11: the two ways a request names no command. -/
theorem unknownRequestsAreRefused : Obligations.UnknownRequestsAreRefused := by
  unfold Obligations.UnknownRequestsAreRefused
  intro s r rest ts hp hr ht
  refine ⟨fun h => step_refuses hp hr ht (decodeRequest_unknownSelector h), fun x hx hmem ha => ?_⟩
  exact step_refuses hp hr ht
    (decodeRequest_unknownDevice hx (takesDevice_of_mem hmem) (deviceOfArg_eq_none ha))

/-! ### Issuing a command -/

/-- Settles O39: the three commands ask for the device first. -/
theorem deviceCommandsRefuseOtherCodes : Obligations.DeviceCommandsRefuseOtherCodes := by
  unfold Obligations.DeviceCommandsRefuseOtherCodes
  intro arg s h
  exact ⟨withDevice_none h, withDevice_none h, withDevice_none h⟩

/-- A wire command issues the frame of its row, over the session register it may write (R101, R130). -/
theorem exec_wire {i : Instr} {s : State} {op : Byte} {w : Word} (hop : i.sel.opcode = some op)
    (hw : i.dataWord s.params = some w) :
    ∃ d e, exec i s = issueFrame i.sel i.arg op w { s with curdev := d, cureq := e } := by
  cases i
  case devsel a =>
    obtain ⟨d, hd, rfl⟩ := Option.map_eq_some_iff.mp hw
    cases hop
    exact ⟨d, s.cureq, withDevice_some hd⟩
  case eqset a => cases hop; cases hw; exact ⟨s.curdev, _, rfl⟩
  case lpoff | init | fcnt | fcntc => cases hop
  all_goals cases hop; cases hw; exact ⟨s.curdev, s.cureq, rfl⟩

/-- Settles O40: a wire command issues the frame of its row, and an `issue` in IDLE completes. -/
theorem issuedFrameIsTheEncodedOne : Obligations.IssuedFrameIsTheEncodedOne := by
  unfold Obligations.IssuedFrameIsTheEncodedOne
  intro i s bs hp hbs
  obtain ⟨op, w, hop, hw, rfl⟩ := encodeFrame_eq_some_iff.mp hbs
  obtain ⟨d, e, hexec⟩ := exec_wire hop hw
  exact ⟨_, hexec.trans (issueFrame_of_idle hp), rfl, rfl, rfl, rfl, rfl, rfl, rfl⟩

end Sys2Proof.Proofs.Encoding

/-! PROOFS. The dispatch of commands and the sequencer (spec/40_dispatch_sequencer.md): the frame each command
issues, what each agent's turn does in each phase, and what becomes of a whole command under the default
order of turns and under any other. -/

namespace Sys2Proof.Proofs.Dispatch

open Sys2Proof Sys2Proof.Machine Sys2Proof.Claims

/-! ### Issuing a command (R130, R131) -/

/-- A framed `issue` in IDLE, its data word given as a number. -/
theorem issueFrame_issued {x : Sel} {a : Word} {op : Byte} {w : Word} {n : Nat} {s : State}
    (hp : s.phase = .idle) (hw : w.toNat = n) :
    issueFrame x a op w s = .next (issued s x a op n) := by
  subst hw
  rw [issueFrame_of_idle hp, State.loadFrame, loByte_eq_mod, hiByte_eq_div]
  rfl

/-- A skipped `issue` in IDLE. -/
theorem issueSkip_skipped {x : Sel} {a : Word} {s : State} (hp : s.phase = .idle) :
    issueSkip x a s = .next (skipped s x a) :=
  issueSkip_eq_next_iff.mpr ⟨hp, rfl⟩

/-- Settles O30. -/
theorem playbackCommandsIssueTheirFrames : Obligations.PlaybackCommandsIssueTheirFrames := by
  unfold Obligations.PlaybackCommandsIssueTheirFrames
  intro arg s hp
  have noOperand (x : Sel) (op : Byte) : issueFrame x arg op 0#16 s = .next (issued s x arg op 0) :=
    issueFrame_issued hp rfl
  exact ⟨noOperand .next _, noOperand .prev _, noOperand .play _, noOperand .pause _,
    noOperand .stop _⟩

/-- Settles O31. -/
theorem wordCommandsPassTheirArgument : Obligations.WordCommandsPassTheirArgument := by
  unfold Obligations.WordCommandsPassTheirArgument
  intro arg s hp
  have word (x : Sel) (op : Byte) : issueFrame x arg op arg s = .next (issued s x arg op arg.toNat) :=
    issueFrame_issued hp rfl
  exact ⟨word .playidx _, word .playft _, word .playfold _, word .loopfold _, word .qffold _⟩

/-- Settles O32: the units of a percentage are at most 30, so they fit the data word. -/
theorem volumeCommandsIssueTheirFrames : Obligations.VolumeCommandsIssueTheirFrames := by
  unfold Obligations.VolumeCommandsIssueTheirFrames
  intro arg s hp
  have hle := Encoding.units_le s.params.roundTie arg.toInt
  have hunits : (BitVec.ofNat 16 (units s.params.roundTie arg.toInt)).toNat =
      units s.params.roundTie arg.toInt := Nat.mod_eq_of_lt (by omega)
  exact ⟨issueFrame_issued hp rfl, issueFrame_issued hp rfl, issueFrame_issued hp hunits⟩

/-- Settles O33: the coerced index is at most 5, so it fits the data word and names a setting. -/
theorem equalizerCommandSendsAndRetains : Obligations.EqualizerCommandSendsAndRetains := by
  unfold Obligations.EqualizerCommandSendsAndRetains
  intro arg s hp
  have hle := Registers.coerce_le arg.toInt
  have hindex : (BitVec.ofNat 16 (coerce arg.toInt)).toNat = coerce arg.toInt :=
    Nat.mod_eq_of_lt (by omega)
  exact ⟨_, Registers.equalizerIndex_equalizerOfIndex hle, issueFrame_issued hp hindex⟩

/-- Bit 0 of the argument as a number (R112). -/
theorem argOn_iff (a : Word) : argOn a = true ↔ a.toNat % 2 = 1 := by
  simp [argOn, BitVec.getLsbD, Nat.testBit_zero]

/-- Settles O34: the data word is bit 0 of the argument or its complement. -/
theorem playModeCommandsIssueTheirFrames : Obligations.PlayModeCommandsIssueTheirFrames := by
  unfold Obligations.PlayModeCommandsIssueTheirFrames
  intro arg s hp
  have direct : (if argOn arg then 1#16 else 0#16).toNat = arg.toNat % 2 := by
    simp only [argOn_iff]
    split <;> simp <;> omega
  have inverted : (if argOn arg then 0#16 else 1#16).toNat = 1 - arg.toNat % 2 := by
    simp only [argOn_iff]
    split <;> simp <;> omega
  exact ⟨issueFrame_issued hp rfl, issueFrame_issued hp rfl, issueFrame_issued hp direct,
    issueFrame_issued hp inverted, issueFrame_issued hp inverted⟩

theorem toNat_deviceWord (s : State) (d : Device) :
    (s.deviceWord d).toNat = (deviceByte s.params.deviceCode d).toNat :=
  BitVec.toNat_setWidth_of_le (by decide)

/-- Settles O35: both commands take the device out of the argument, retain it and send its byte. -/
theorem deviceSelectionSendsAndRetains : Obligations.DeviceSelectionSendsAndRetains := by
  unfold Obligations.DeviceSelectionSendsAndRetains
  intro arg d s hp hd
  exact ⟨(withDevice_some hd).trans (issueFrame_issued hp (toNat_deviceWord s d)),
    (withDevice_some hd).trans (issueFrame_issued hp (toNat_deviceWord s d))⟩

/-- Settles O36. -/
theorem powerCommandsIssueTheirFrames : Obligations.PowerCommandsIssueTheirFrames := by
  unfold Obligations.PowerCommandsIssueTheirFrames
  intro arg s hp
  exact ⟨issueFrame_issued hp rfl, issueFrame_issued hp rfl,
    issueFrame_issued hp (toNat_deviceWord s s.curdev)⟩

/-- Settles O37. -/
theorem queriesIssueTheirFrames : Obligations.QueriesIssueTheirFrames := by
  unfold Obligations.QueriesIssueTheirFrames
  intro arg s hp
  have noOperand (x : Sel) (op : Byte) : issueFrame x arg op 0#16 s = .next (issued s x arg op 0) :=
    issueFrame_issued hp rfl
  exact ⟨noOperand .qstate _, noOperand .qvol _, noOperand .qeq _, noOperand .qfusb _,
    noOperand .qfsd _, noOperand .qfflash _⟩

theorem issueFileCount_issued {x : Sel} {a : Word} {d : Device} {op : Byte} {s : State}
    (hp : s.phase = .idle) (hop : fileCountOp d = some op) :
    issueFileCount x a d s = .next (issued s x a op 0) := by
  unfold issueFileCount
  rw [hop]
  exact issueFrame_issued hp rfl

theorem issueFileCount_skipped {x : Sel} {a : Word} {d : Device} {s : State}
    (hp : s.phase = .idle) (hop : fileCountOp d = none) :
    issueFileCount x a d s = .next (skipped s x a) := by
  unfold issueFileCount
  rw [hop]
  exact issueSkip_skipped hp

/-- Settles O38: both commands issue the file count of a device, the one of the argument or CURDEV. -/
theorem fileCountDependsOnTheDevice : Obligations.FileCountDependsOnTheDevice := by
  unfold Obligations.FileCountDependsOnTheDevice
  intro arg d s hp
  refine ⟨fun op hop => ?_, fun hnone => ?_⟩
  · have counts : fileCountOp d = some op := by
      obtain ⟨rfl, rfl⟩ | ⟨rfl, rfl⟩ | ⟨rfl, rfl⟩ := hop <;> rfl
    refine ⟨fun hd => (withDevice_some hd).trans (issueFileCount_issued hp counts), fun hd => ?_⟩
    subst hd
    exact issueFileCount_issued hp counts
  · have skips : fileCountOp d = none := by
      obtain rfl | rfl := hnone <;> rfl
    refine ⟨fun hd => (withDevice_some hd).trans (issueFileCount_skipped hp skips), fun hd => ?_⟩
    subst hd
    exact issueFileCount_skipped hp skips

/-! ### Which requests the host's turn completes (R105, R131, R133) -/

/-- In IDLE a command with a device where it takes one is always issued. -/
theorem exec_completes {i : Instr} {s : State} (hp : s.phase = .idle) (hwf : i.wellFormed = true) :
    ∃ t, exec i s = .next t := by
  have device (a : Word) (h : (deviceOfArg a).isSome = true) : ∃ d, deviceOfArg a = some d :=
    Option.isSome_iff_exists.mp h
  have counted (x : Sel) (a : Word) (d : Device) : ∃ t, issueFileCount x a d s = .next t := by
    cases hop : fileCountOp d with
    | some op => exact ⟨_, issueFileCount_issued hp hop⟩
    | none => exact ⟨_, issueFileCount_skipped hp hop⟩
  cases i
  case devsel a =>
    obtain ⟨d, hd⟩ := device a hwf
    exact ⟨_, (withDevice_some hd).trans (issueFrame_of_idle hp)⟩
  case init a =>
    obtain ⟨d, hd⟩ := device a hwf
    exact ⟨_, (withDevice_some hd).trans (issueFrame_of_idle hp)⟩
  case fcnt a =>
    obtain ⟨d, hd⟩ := device a hwf
    obtain ⟨t, ht⟩ := counted .fcnt a d
    exact ⟨t, (withDevice_some hd).trans ht⟩
  case fcntc a => exact counted .fcntc a s.curdev
  all_goals exact ⟨_, issueFrame_of_idle hp⟩

@[simp] theorem arg_instr (x : Sel) (a : Word) : (x.instr a).arg = a := by
  cases x <;> rfl

/-- What the port accepts holds a device where its command takes one (R105). -/
theorem wellFormed_of_decodeRequest {r : PortRequest} {i : Instr} (h : decodeRequest r = .ok i) :
    i.wellFormed = true := by
  unfold decodeRequest at h
  split at h
  case h_1 => cases h
  case h_2 x _ =>
    split at h
    case isTrue => cases h
    case isFalse accepted =>
      cases h
      simpa [Instr.wellFormed, Option.isSome_iff_ne_none, imp_iff_not_or] using accepted

/-- A command that has a frame holds a device where it takes one. -/
theorem wellFormed_of_dataWord {p : Params} {i : Instr} {w : Word} (h : i.dataWord p = some w) :
    i.wellFormed = true := by
  cases i
  case devsel a =>
    obtain ⟨d, hd, _⟩ := Option.map_eq_some_iff.mp h
    simp [Instr.wellFormed, Instr.arg, hd]
  case init | fcnt => cases h
  all_goals rfl

/-- A word of the table is presented as a request that the port reads back (R91, R105). -/
theorem decodeRequest_requestOfWord {w : Nat} {i : Instr} (h : decodeTableWord 64 w = some i) :
    decodeRequest (requestOfWord 64 w) = .ok i := by
  have hframe : decodeFrame standardDeviceCode (frameBytes w) = .ok i := by
    unfold decodeTableWord at h
    split at h
    case isFalse => cases h
    case isTrue =>
      split at h
      case h_1 hj => cases h; exact hj
      case h_2 => cases h
  obtain ⟨_, _, _, hw, _⟩ := Encoding.encodeFrame_eq_some_iff.mp
    (Encoding.decodedFrameIsSentByItsCommand buildParams _ _ hframe)
  have presents : requestOfWord 64 w = encodeRequest i := by simp only [requestOfWord, h]
  rw [presents]
  exact Encoding.requestRoundTrip i (wellFormed_of_dataWord hw)

/-- Settles O18: the word's request is the host's next one and the host moves next. -/
theorem fetchedWordRunsNext : Obligations.FetchedWordRunsNext := by
  unfold Obligations.FetchedWordRunsNext
  intro s w i hp hw
  have issues : step (s.withFetchWord 64 w) =
      hostTurn (s.setRequests (requestOfWord 64 w :: s.requests)) :=
    step_of_turns (s := s.withFetchWord 64 w) (State.presentRequest_turns s _)
  rw [issues, hostTurn_issues (by exact hp) rfl (decodeRequest_requestOfWord hw)]
  rfl

/-- Settles O19. -/
theorem hostHasNoStepWhileBusy : Obligations.HostHasNoStepWhileBusy := by
  unfold Obligations.HostHasNoStepWhileBusy
  intro s i ts hp
  refine ⟨fun t h => hp (exec_eq_next h).1, ?_⟩
  rw [step_of_turns rfl]
  exact hostTurn_waits hp

/-- Settles O48: of the five agents only the host can be refused, and only by the port. -/
theorem onlyUnacceptedRequestsAreRefused : Obligations.OnlyUnacceptedRequestsAreRefused := by
  unfold Obligations.OnlyUnacceptedRequestsAreRefused
  intro s
  rw [step_eq]
  match ha : s.nextTurn.1 with
  | .sequencer | .timebase | .peripheral _ | .reset => exact .inl ⟨_, rfl⟩
  | .host =>
    by_cases hp : s.phase = .idle
    · match hr : s.requests with
      | [] => exact .inl ⟨_, Registers.hostTurn_no_request hr⟩
      | r :: rest =>
        cases hd : decodeRequest r with
        | error e => exact .inr ⟨rfl, hp, r, rest, e, rfl, hd, Registers.hostTurn_refuses hp hr hd⟩
        | ok i =>
          obtain ⟨t, ht⟩ :=
            exec_completes (s := s.takeTurn.setRequests rest) hp (wellFormed_of_decodeRequest hd)
          exact .inl ⟨t, (hostTurn_issues (s := s.takeTurn) hp hr hd).trans ht⟩
    · exact .inl ⟨_, hostTurn_waits hp⟩

/-! ### One turn of the sequencer and of the timebase (R135, R138, R140, R142, R145, R148) -/

/-- Settles O5: the nine opcodes with a delay of their own, and the rest. -/
theorem settleDelayOfEveryOpcode : Obligations.SettleDelayOfEveryOpcode := by
  unfold Obligations.SettleDelayOfEveryOpcode
  intro op
  have slow_ne_reset : ∀ slow ∈ slowSet, slow ≠ chipResetOp := by decide
  refine ⟨fun h => if_pos h, fun h => ?_, fun h => ?_⟩
  · exact (if_neg (slow_ne_reset op h)).trans (if_pos h)
  · obtain ⟨hne, hnotSlow⟩ := List.ne_and_not_mem_of_not_mem_cons h
    exact (if_neg hne).trans (if_neg hnotSlow)

/-- Settles O20, by whether the byte is the eighth. -/
theorem txByteSendsTheNextFrameByte : Obligations.TxByteSendsTheNextFrameByte := by
  unfold Obligations.TxByteSendsTheNextFrameByte
  refine ⟨fun s ts hp hts => ⟨s.nextTxByte, nextTxByte_getElem s, fun hlt => ?_, fun heq => ?_⟩,
    fun s ts hp => ⟨fun hts => ?_, fun b hts => ?_⟩⟩
  · have more : s.txIdx ≠ 7#3 := fun h => absurd hlt (by rw [h]; decide)
    rw [step_of_turns hts, agentTurn, sequencerStep_tx (by exact hp), txByteStep_more (by exact more)]
    rfl
  · have last : s.txIdx = 7#3 := BitVec.eq_of_toNat_eq heq
    rw [step_of_turns hts, agentTurn, sequencerStep_tx (by exact hp), txByteStep_last (by exact last)]
    rfl
  · have still : s.phase ≠ .settle := by rw [hp]; decide
    rw [step_of_turns hts, agentTurn, tickStep_still (.inl (by exact still))]
    rfl
  · rw [step_of_turns hts, agentTurn]
    obtain ⟨e, _⟩ | ⟨e, _⟩ := rxByte_cases (s.setTurns ts) b <;> rw [e]
    · exact ⟨_, rfl⟩
    · exact ⟨s.rxFifo, rfl⟩

/-- Settles O21. -/
theorem tickCountsOnlyWhileSettling : Obligations.TickCountsOnlyWhileSettling := by
  unfold Obligations.TickCountsOnlyWhileSettling
  intro s ts hts
  rw [step_of_turns hts, agentTurn]
  refine ⟨fun hp hm => ?_, fun still => ?_⟩
  · have running : s.settleMs ≠ 0#10 := fun h => absurd hm (by rw [h]; decide)
    rw [tickStep_counts (by exact hp) (by exact running)]
    rfl
  · rw [tickStep_still (by exact still)]
    rfl

/-- Settles O22: the timer runs, or it has run out and `settled` takes one of its three branches. -/
theorem settledChoosesWhatFollows : Obligations.SettledChoosesWhatFollows := by
  unfold Obligations.SettledChoosesWhatFollows
  intro s ts hp hts
  rw [step_of_turns hts, agentTurn]
  refine ⟨fun hm => ?_, fun hm hq => ?_, fun hm hq hi h0 => ?_, fun hm hq hi => ?_⟩
  · rw [sequencerStep_settling (by exact hp) (by exact hm)]
    rfl
  · rw [sequencerStep_settled (by exact hp) (by exact hm), settledStep_drains (by exact hq)]
    rfl
  · rw [sequencerStep_settled (by exact hp) (by exact hm),
      settledStep_queries (by exact hq) (by exact hi) (by exact h0)]
    rfl
  · have ends : ¬ (s.cmdSel = .init ∧ s.mstep = 0#1) := by
      rintro ⟨hinit, h0⟩
      obtain hne | h1 := hi
      · exact hne hinit
      · exact absurd (h0.symm.trans h1) (by decide)
    rw [sequencerStep_settled (by exact hp) (by exact hm), settledStep_ends (by exact hq) (by exact ends)]
    rfl

/-- The completion action ends the drain and leaves the streams (R148). -/
theorem completeCommand_leaves_drain (s : State) :
    (completeCommand s).phase ≠ .drain ∧ (completeCommand s).rxFifo = s.rxFifo ∧
      (completeCommand s).txLog = s.txLog := by
  obtain ⟨_, e⟩ | ⟨_, _, e⟩ | ⟨_, _, e⟩ := Registers.completeCommand_cases s <;> rw [e] <;> simp

/-- Settles O23, by whether the chunk decodes. -/
theorem drainAttemptTakesOneChunk : Obligations.DrainAttemptTakesOneChunk := by
  unfold Obligations.DrainAttemptTakesOneChunk
  intro s ts hp hts
  rw [step_of_turns hts, agentTurn, sequencerStep_drain (by exact hp)]
  refine ⟨fun op dw hd => ?_, fun hd => ?_⟩
  · rw [drainAttempt_decodes (by exact hd)]
    rfl
  · rw [drainAttempt_ends (by exact hd)]
    exact ⟨_, rfl, completeCommand_leaves_drain _⟩

/-- The commands that drain are those R266 has a row for, and the value it gives is the one written. -/
theorem resultValue_answer {x : Sel} (h : drains x = true) (op : Byte) (dw : Word) :
    resultValue x (some (op, dw)) = answerValue x dw := by
  cases x <;> cases h
  case qvol.refl => rfl
  all_goals exact (BitVec.ofNat_toNat 32 dw).symm

theorem drains_of_mem {x : Sel} (h : x ∈ querySels) : drains x = true := by
  revert x
  decide

/-- Settles O24: the three ways the completion action can go. -/
theorem completionWritesTheResult : Obligations.CompletionWritesTheResult := by
  unfold Obligations.CompletionWritesTheResult
  intro s ts hp hts hsel hd
  rw [step_of_turns hts, agentTurn, sequencerStep_drain (by exact hp), drainAttempt_ends (by exact hd)]
  refine ⟨fun hv => ?_, fun hv hi => ?_, fun hv hi => ?_⟩
  · rw [completeCommand_answered (by exact hv), ← resultValue_answer (drains_of_mem hsel) s.lastOp]
    rfl
  · rw [completeCommand_unanswered (by exact hv) (by exact hi)]
    rfl
  · rw [completeCommand_fails (by exact hv) (by exact hi)]
    rfl

/-! ### The phase after a turn (R150) -/

theorem tickStep_phase (s : State) : (tickStep s).phase = s.phase := by
  obtain ⟨_, _, e⟩ | e := tickStep_cases s <;> rw [e]

theorem rxByte_phase (s : State) (b : Byte) : (s.rxByte b).phase = s.phase := by
  obtain ⟨e, _⟩ | ⟨e, _⟩ := rxByte_cases s b <;> rw [e]

theorem txByteStep_phase {s : State} (hp : s.phase = .tx) :
    (txByteStep s).phase = if s.txIdx = 7#3 then .settle else .tx := by
  obtain ⟨hi, e⟩ | ⟨hi, e⟩ := txByteStep_cases s
  · rw [e, if_pos hi]
  · rw [e, if_neg hi]
    exact hp

theorem settledStep_phase (s : State) :
    (settledStep s).phase =
      if s.txOp ∈ querySet then .drain
      else if s.cmdSel = .init ∧ s.mstep = 0#1 then .tx
      else .idle := by
  obtain ⟨hq, e⟩ | ⟨hq, hi, h0, e⟩ | ⟨hq, hi, e⟩ := settledStep_cases s
  · rw [e, if_pos hq]
  · rw [e, if_neg hq, if_pos ⟨hi, h0⟩]
    rfl
  · rw [e, if_neg hq, if_neg hi]

theorem drainAttempt_phase {s : State} (hp : s.phase = .drain) :
    (drainAttempt s).phase =
      if (decodeRx (s.rxFifo.take 10)).isSome then .drain
      else if s.cmdSel = .init ∧ s.lastValid = false then .failed
      else .idle := by
  obtain ⟨_, _, hd, e⟩ | ⟨hd, hv, e⟩ | ⟨hd, _, hi, e⟩ | ⟨hd, hv, hi, e⟩ := drainAttempt_cases s <;>
    rw [e, hd]
  · exact hp
  · simp [hv]
  · simp [hi]
  · simp [hi, hv]

/-- The host's turn in IDLE starts a frame, but for no request and for one that sends nothing. -/
theorem hostTurn_phase {s t : State} (hp : s.phase = .idle) (h : hostTurn s = .next t) :
    (s.requests = [] ∨ nextRequestSkips s → t.phase = .idle) ∧
    (¬ (s.requests = [] ∨ nextRequestSkips s) → t.phase = .tx) := by
  obtain ⟨rfl, hnone⟩ | ⟨_, r, rest, i, hr, hd, hexec⟩ := hostTurn_eq_next h
  · exact ⟨fun _ => hp, fun hne => absurd (.inl (hnone hp)) hne⟩
  · obtain ⟨_, ⟨_, _, _, _, rfl, _⟩ | ⟨rfl, hskip⟩⟩ := exec_eq_next hexec
    · refine ⟨?_, fun _ => rfl⟩
      rintro (hnone | ⟨r', rest', i', hr', hd', hskip⟩)
      · cases hnone.symm.trans hr
      · cases hr.symm.trans hr'
        cases hd.symm.trans hd'
        rw [exec_skips (s := s.setRequests rest) hp hskip] at hexec
        exact (congrArg State.phase (Host.Outcome.next.inj hexec)).symm.trans hp
    · exact ⟨fun _ => hp, fun hne => absurd (.inr ⟨r, rest, i, hr, hd, hskip⟩) hne⟩

theorem sequencerStep_phase_settle {s : State} (hp : s.phase = .settle) :
    (sequencerStep s).phase =
      if s.settleMs ≠ 0#10 then .settle
      else if s.txOp ∈ querySet then .drain
      else if s.cmdSel = .init ∧ s.mstep = 0#1 then .tx
      else .idle := by
  by_cases hm : s.settleMs = 0#10
  · rw [sequencerStep_settled hp hm, settledStep_phase, if_neg (not_not.mpr hm)]
  · rw [sequencerStep_settling hp hm, if_pos hm, hp]

/-- Settles O41: agent by agent, and phase by phase. -/
theorem phaseTransitionsAreTheTable : Obligations.PhaseTransitionsAreTheTable := by
  unfold Obligations.PhaseTransitionsAreTheTable
  intro s t h
  rw [step_eq] at h
  cases ha : s.nextTurn.1 <;> rw [ha] at h
  case reset => cases h; rfl
  case timebase => cases h; cases hp : s.phase <;> exact (tickStep_phase s.takeTurn).trans hp
  case peripheral b => cases h; cases hp : s.phase <;> exact (rxByte_phase s.takeTurn b).trans hp
  case sequencer =>
    cases h
    cases hp : s.phase
    case tx =>
      rw [sequencerStep_tx (s := s.takeTurn) hp]
      exact txByteStep_phase (s := s.takeTurn) hp
    case settle => exact sequencerStep_phase_settle (s := s.takeTurn) hp
    case drain =>
      rw [sequencerStep_drain (s := s.takeTurn) hp]
      exact drainAttempt_phase (s := s.takeTurn) hp
    case idle => rw [sequencerStep_rests (s := s.takeTurn) (.inl hp)]; exact hp
    case failed => rw [sequencerStep_rests (s := s.takeTurn) (.inr hp)]; exact hp
  case host =>
    cases hp : s.phase
    case idle => exact hostTurn_phase (s := s.takeTurn) hp h
    all_goals
      have waits := hostTurn_waits (s := s.takeTurn) (show s.phase ≠ .idle by rw [hp]; decide)
      cases waits.symm.trans h
      exact hp

/-! ### The default order of turns (log 12) -/

/-- With nobody named, the agent that the phase asks for moves. -/
theorem step_due {s : State} {a : Agent} (hts : s.turns = []) (hafter : s.turnsAfter = .due)
    (due : s.defaultAgent = a) : step s = agentTurn a s := by
  rw [step_of_no_turns hts hafter, due]

theorem step_tx_due {s : State} (hp : s.phase = .tx) (hts : s.turns = [])
    (hafter : s.turnsAfter = .due) : step s = .next (txByteStep s) := by
  rw [step_due (a := .sequencer) hts hafter (by simp [State.defaultAgent, hp]), agentTurn,
    sequencerStep_tx hp]

theorem step_settling_due {s : State} (hp : s.phase = .settle) (hm : s.settleMs ≠ 0#10)
    (hts : s.turns = []) (hafter : s.turnsAfter = .due) :
    step s = .next { s with settleMs := s.settleMs - 1#10 } := by
  rw [step_due (a := .timebase) hts hafter (by simp [State.defaultAgent, hp, hm]), agentTurn,
    tickStep_counts hp hm]

theorem step_settled_due {s : State} (hp : s.phase = .settle) (hm : s.settleMs = 0#10)
    (hts : s.turns = []) (hafter : s.turnsAfter = .due) : step s = .next (settledStep s) := by
  rw [step_due (a := .sequencer) hts hafter (by simp [State.defaultAgent, hp, hm]), agentTurn,
    sequencerStep_settled hp hm]

theorem step_drain_due {s : State} (hp : s.phase = .drain) (hts : s.turns = [])
    (hafter : s.turnsAfter = .due) : step s = .next (drainAttempt s) := by
  rw [step_due (a := .sequencer) hts hafter (by simp [State.defaultAgent, hp]), agentTurn,
    sequencerStep_drain hp]

/-- The bytes of the frame in progress that have gone out, once the next one has too. -/
theorem take_frame_succ (s : State) :
    (encodeTx s.txOp s.txLo s.txHi).take (s.txIdx.toNat + 1) =
      (encodeTx s.txOp s.txLo s.txHi).take s.txIdx.toNat ++ [s.nextTxByte] := by
  rw [List.take_add_one, nextTxByte_getElem]
  rfl

/-- Left to run, the sequencer sends up to seven bytes of a frame, one in each step (R135). -/
theorem run_bytes_due {s : State} (hp : s.phase = .tx) (hi : s.txIdx = 0#3) (hts : s.turns = [])
    (hafter : s.turnsAfter = .due) {n : Nat} (hn : n ≤ 7) :
    run n s = .next { s with
      txLog := s.txLog ++ (encodeTx s.txOp s.txLo s.txHi).take n, txIdx := BitVec.ofNat 3 n } := by
  induction n with
  | zero =>
    rw [List.take_zero, List.append_nil, ← hi]
    rfl
  | succ n ih =>
    have sent := ih (by omega)
    generalize hw : ({ s with
      txLog := s.txLog ++ (encodeTx s.txOp s.txLo s.txHi).take n
      txIdx := BitVec.ofNat 3 n } : State) = w at sent
    have hidx : w.txIdx.toNat = n := by subst hw; exact Nat.mod_eq_of_lt (by omega)
    have more : w.txIdx ≠ 7#3 := fun h => absurd hidx (by rw [h]; simp; omega)
    have next := take_frame_succ w
    rw [run_add sent, run_one, step_tx_due (by subst hw; exact hp) (by subst hw; exact hts)
      (by subst hw; exact hafter), txByteStep_more more]
    rw [hidx] at next
    subst hw
    dsimp only at next ⊢
    rw [next, List.append_assoc, BitVec.ofNat_add]

/-- Left to run, a frame goes out in eight steps and its timer is loaded (R135). -/
theorem run_frame_due {s : State} (hp : s.phase = .tx) (hi : s.txIdx = 0#3) (hts : s.turns = [])
    (hafter : s.turnsAfter = .due) :
    run 8 s = .next { s with
      txLog := s.txLog ++ encodeTx s.txOp s.txLo s.txHi
      settleMs := settleDelay s.txOp, phase := .settle } := by
  rw [run_add (m := 1) (run_bytes_due hp hi hts hafter (Nat.le_refl 7)), run_one,
    step_tx_due (by exact hp) (by exact hts) (by exact hafter), txByteStep_last rfl, hi]
  simp only [List.append_assoc]
  rfl

/-- Left to run, the settle timer is counted down to 0 (R140, R141). -/
theorem run_delay_due {s : State} {n : Nat} (hp : s.phase = .settle) (hn : s.settleMs.toNat = n)
    (hts : s.turns = []) (hafter : s.turnsAfter = .due) :
    run n s = .next { s with settleMs := 0#10 } := by
  induction n generalizing s with
  | zero =>
    have hm : s.settleMs = 0#10 := BitVec.eq_of_toNat_eq hn
    rw [← hm]
    rfl
  | succ n ih =>
    have running : s.settleMs ≠ 0#10 := by
      intro h
      rw [h] at hn
      cases hn
    rw [run_succ_of_next (step_settling_due hp running hts hafter)]
    exact ih (s := { s with settleMs := s.settleMs - 1#10 }) hp (by dsimp only; bv_omega) hts hafter

/-- Left to run, a frame goes out and its settle delay passes (R135, R141). -/
theorem run_frame_delay_due {s : State} (hp : s.phase = .tx) (hi : s.txIdx = 0#3)
    (hts : s.turns = []) (hafter : s.turnsAfter = .due) :
    run (8 + (settleDelay s.txOp).toNat) s = .next { s with
      txLog := s.txLog ++ encodeTx s.txOp s.txLo s.txHi, settleMs := 0#10, phase := .settle } := by
  rw [run_add (run_frame_due hp hi hts hafter)]
  exact run_delay_due rfl rfl hts hafter

/-- Settles O53: after the frame and its delay the last step is `settled`. -/
theorem commandLeftToRunCompletes : Obligations.CommandLeftToRunCompletes := by
  unfold Obligations.CommandLeftToRunCompletes
  intro s hp hi hts hafter hq hsel
  have ends : ¬ (s.cmdSel = .init ∧ s.mstep = 0#1) := fun h => hsel h.1
  rw [run_add (run_frame_delay_due hp hi hts hafter), run_one,
    step_settled_due rfl rfl (by exact hts) (by exact hafter),
    settledStep_ends (by exact hq) (by exact ends)]
  rfl

/-- Left to run, a drain takes the frames off the front one by one, and the last is its answer (R144). -/
theorem run_frames_due {s : State} (hp : s.phase = .drain) (hts : s.turns = [])
    (hafter : s.turnsAfter = .due) (hv : s.lastValid = false) {frames : List (List Byte)}
    (hframes : ∀ f ∈ frames, (decodeRx f).isSome = true) {tail : List Byte}
    (hrx : s.rxFifo = frames.flatten ++ tail) :
    ∃ v op dw, run frames.length s = .next { s with
        rxFifo := tail, lastValid := v, lastOp := op, lastDw := dw } ∧
      frames.getLast?.bind decodeRx = if v then some (op, dw) else none := by
  induction frames using List.reverseRecOn generalizing tail with
  | nil =>
    refine ⟨false, s.lastOp, s.lastDw, ?_, rfl⟩
    rw [← hv, show tail = s.rxFifo from hrx.symm]
    rfl
  | append_singleton fs f ih =>
    obtain ⟨⟨op, dw⟩, hf⟩ := Option.isSome_iff_exists.mp (hframes f (by simp))
    obtain ⟨v, op', dw', hrun, _⟩ := ih (fun g hg => hframes g (List.mem_append_left _ hg))
      (tail := f ++ tail) (by rw [hrx]; simp)
    have chunk : decodeRx ((f ++ tail).take 10) = some (op, dw) := by
      rw [List.take_left' (decodeRx_length hf), hf]
    refine ⟨true, op, dw, ?_, by simp [hf]⟩
    rw [List.length_append, List.length_singleton, run_add hrun, run_one,
      step_drain_due (by exact hp) (by exact hts) (by exact hafter), drainAttempt_decodes (by exact chunk)]
    dsimp only
    rw [List.drop_left' (decodeRx_length hf)]

/-- Settles O52: once the frames are gone, the next attempt ends the drain with what the last left. -/
theorem drainAnswersWithTheLastFrame : Obligations.DrainAnswersWithTheLastFrame := by
  unfold Obligations.DrainAnswersWithTheLastFrame
  intro s frames tail hp hts hafter hv hsel hframes hrx htail
  obtain ⟨v, op, dw, hrun, hlast⟩ := run_frames_due hp hts hafter hv hframes hrx
  have ends : run (frames.length + 1) s = .next (completeCommand (({ s with
      rxFifo := tail, lastValid := v, lastOp := op, lastDw := dw } : State).rxDrop 10)) := by
    rw [run_add hrun, run_one, step_drain_due (by exact hp) (by exact hts) (by exact hafter),
      drainAttempt_ends (by exact htail)]
  refine ⟨_, ends, ?_⟩
  rw [hlast]
  cases v with
  | true =>
    rw [completeCommand_answered rfl]
    exact ⟨rfl, rfl, rfl, rfl, rfl, rfl, rfl, rfl, resultValue_answer (drains_of_mem hsel) op dw⟩
  | false =>
    by_cases hi : s.cmdSel = .init
    · rw [completeCommand_fails rfl (by exact hi), if_pos hi]
      exact ⟨rfl, rfl, rfl, rfl, rfl, rfl, rfl, rfl, rfl⟩
    · rw [completeCommand_unanswered rfl (by exact hi), if_neg hi]
      exact ⟨rfl, rfl, rfl, rfl, rfl, rfl, rfl, rfl, rfl⟩

/-! ### The turns of the other agents (R22, R48, R140) -/

theorem arrivals_append (as bs : List Agent) : arrivals (as ++ bs) = arrivals as ++ arrivals bs := by
  induction as with
  | nil => rfl
  | cons a as ih => cases a <;> simp [arrivals, ih]

theorem ticksIn_append (as bs : List Agent) : ticksIn (as ++ bs) = ticksIn as + ticksIn bs :=
  List.count_append

/-- What a turn may do that is neither the sequencer's nor `reset` and issues nothing: a millisecond comes off
a running timer, a byte arrives, and other turns are left. -/
structure Aside (a : Agent) (s t : State) : Prop where
  notSequencer : a ≠ .sequencer
  rest : t = { s with settleMs := t.settleMs, rxFifo := t.rxFifo, turns := t.turns }
  ticks : s.settleMs.toNat ≤ t.settleMs.toNat + ticksIn [a]
  arrived : s.params.rxCapacity = none → t.rxFifo = s.rxFifo ++ arrivals [a]
  atMost : t.rxFifo.length ≤ s.rxFifo.length + (arrivals [a]).length

theorem Aside.phase {a : Agent} {s t : State} (h : Aside a s t) : t.phase = s.phase := by
  rw [h.rest]

theorem Aside.txIdx {a : Agent} {s t : State} (h : Aside a s t) : t.txIdx = s.txIdx := by
  rw [h.rest]

theorem Aside.txLog {a : Agent} {s t : State} (h : Aside a s t) : t.txLog = s.txLog := by
  rw [h.rest]

/-- A turn that does nothing at all. -/
theorem aside_refl {a : Agent} (ha : a ≠ .sequencer) (hnone : arrivals [a] = []) (s : State) :
    Aside a s s :=
  ⟨ha, rfl, Nat.le_add_right _ _, fun _ => by rw [hnone, List.append_nil], Nat.le_add_right _ _⟩

theorem hostTurn_aside {s t : State} (hq : s.phase = .idle → s.requests = [])
    (h : hostTurn s = .next t) : Aside .host s t := by
  obtain ⟨rfl, _⟩ | ⟨hp, r, rest, i, hr, _⟩ := hostTurn_eq_next h
  · exact aside_refl (by decide) rfl t
  · cases (hq hp).symm.trans hr

theorem tickStep_aside (s : State) : Aside .timebase s (tickStep s) := by
  obtain ⟨_, hm, e⟩ | e := tickStep_cases s <;> rw [e]
  · refine ⟨by decide, rfl, ?_, fun _ => (List.append_nil _).symm, Nat.le_refl _⟩
    show s.settleMs.toNat ≤ (s.settleMs - 1#10).toNat + 1
    bv_omega
  · exact aside_refl (by decide) rfl s

theorem rxByte_aside (s : State) (b : Byte) : Aside (.peripheral b) s (s.rxByte b) := by
  have ha : Agent.peripheral b ≠ .sequencer := by simp
  obtain ⟨e, _⟩ | ⟨e, c, hc, _⟩ := rxByte_cases s b <;> rw [e]
  · exact ⟨ha, rfl, Nat.le_refl _, fun _ => rfl, Nat.le_of_eq List.length_append⟩
  · exact ⟨ha, rfl, Nat.le_refl _, fun hnone => (by cases hnone.symm.trans hc), Nat.le_add_right _ _⟩

/-- Everything a turn but `reset` can do where no command can be issued. -/
theorem agentTurn_sequencer_or_aside {a : Agent} {s t : State} (ha : a ≠ .reset)
    (hq : s.phase = .idle → s.requests = []) (h : agentTurn a s = .next t) :
    (a = .sequencer ∧ t = sequencerStep s) ∨ Aside a s t := by
  cases a with
  | host => exact .inr (hostTurn_aside hq h)
  | sequencer => cases h; exact .inl ⟨rfl, rfl⟩
  | timebase => cases h; exact .inr (tickStep_aside s)
  | peripheral b => cases h; exact .inr (rxByte_aside s b)
  | reset => exact absurd rfl ha

/-! ### How long a drain lasts (R146, R338) -/

/-- The first turn of a run. -/
theorem run_turn {s t : State} {a : Agent} {rest : List Agent} (k : Nat)
    (h : agentTurn a { s with turns := rest } = .next t) :
    run (k + 1) { s with turns := a :: rest } = run k { t with turns := rest } := by
  obtain rfl : t.turns = rest := (agentTurn_turns h).1
  exact run_succ_of_next ((step_of_turns rfl).trans h)

/-- A turn in DRAIN leaves the phase, or it adds no byte that is not an arrival, and takes ten if it is the
sequencer's. -/
theorem agentTurn_drain (a : Agent) {s : State} (hp : s.phase = .drain) :
    ∃ t, agentTurn a s = .next t ∧ (t.phase ≠ .drain ∨ t.phase = .drain ∧
      t.rxFifo.length + 10 * [a].count .sequencer ≤ s.rxFifo.length + (arrivals [a]).length) := by
  have stays {a : Agent} {t : State} (h : Aside a s t) : t.phase = .drain ∧
      t.rxFifo.length + 10 * [a].count .sequencer ≤ s.rxFifo.length + (arrivals [a]).length := by
    rw [List.count_singleton, if_neg (by simpa using h.notSequencer)]
    exact ⟨h.phase.trans hp, h.atMost⟩
  have waits : hostTurn s = .next s := hostTurn_waits (by rw [hp]; decide)
  cases a with
  | host => exact ⟨s, waits, .inr (stays (aside_refl (by decide) rfl s))⟩
  | timebase => exact ⟨_, rfl, .inr (stays (tickStep_aside s))⟩
  | peripheral b => exact ⟨_, rfl, .inr (stays (rxByte_aside s b))⟩
  | reset => exact ⟨_, rfl, .inl (by simp)⟩
  | sequencer =>
    refine ⟨_, rfl, ?_⟩
    rw [sequencerStep_drain hp]
    cases hd : decodeRx (s.rxFifo.take 10) with
    | none =>
      rw [drainAttempt_ends hd]
      exact .inl (completeCommand_leaves_drain _).1
    | some r =>
      have whole := decodeRx_length hd
      rw [List.length_take] at whole
      rw [drainAttempt_decodes (op := r.1) (dw := r.2) hd]
      refine .inr ⟨hp, ?_⟩
      show (s.rxFifo.drop 10).length + 10 * 1 ≤ s.rxFifo.length + 0
      rw [List.length_drop]
      omega

/-- Settles O60: as long as the block stays in DRAIN, each turn of the sequencer takes ten bytes off what was
there and arrives. -/
theorem drainEndsOnceArrivalsAreOutrun : Obligations.DrainEndsOnceArrivalsAreOutrun := by
  unfold Obligations.DrainEndsOnceArrivalsAreOutrun
  intro s as
  induction as generalizing s with
  | nil => intro _ outrun; exact absurd outrun (Nat.not_lt_zero _)
  | cons a rest ih =>
    intro hp outrun
    obtain ⟨t, ht, left | ⟨htp, bytes⟩⟩ := agentTurn_drain a (s := { s with turns := rest }) hp
    · exact ⟨1, _, Nat.succ_le_succ (Nat.zero_le _), (run_turn 0 ht).trans rfl, left⟩
    · rw [← List.singleton_append, arrivals_append, List.length_append, List.count_append] at outrun
      obtain ⟨k, v, hk, hrun, hv⟩ := ih t htp (by dsimp only at bytes; omega)
      exact ⟨k + 1, v, Nat.succ_le_succ hk, (run_turn k ht).trans hrun, hv⟩

/-- In DRAIN, with an unbounded buffer that holds `got`, and the turns `ts` to come. -/
structure Fed (got : List Byte) (ts : List Agent) (s : State) : Prop where
  phase : s.phase = .drain
  capacity : s.params.rxCapacity = none
  rxFifo : s.rxFifo = got
  turns : s.turns = ts

/-- A byte of a frame arrives (R48). -/
theorem Fed.receives {got : List Byte} {b : Byte} {ts : List Agent} {s : State}
    (h : Fed got (.peripheral b :: ts) s) :
    ∃ t, step s = .next t ∧ Fed (got ++ [b]) ts t ∧ t.turnsAfter = s.turnsAfter :=
  ⟨_, (Registers.receivedByteIsAppendedOrLost s b ts h.turns).1 (.inl h.capacity),
    ⟨h.phase, h.capacity, congrArg (· ++ [b]) h.rxFifo, rfl⟩, rfl⟩

/-- A whole frame that lies in the buffer alone is taken, and the drain goes on (R145). -/
theorem Fed.decodes {got : List Byte} {ts : List Agent} {s : State}
    (h : Fed got (.sequencer :: ts) s) (hf : (decodeRx got).isSome = true) :
    ∃ t, step s = .next t ∧ Fed [] ts t ∧ t.turnsAfter = s.turnsAfter := by
  obtain ⟨⟨op, dw⟩, hd⟩ := Option.isSome_iff_exists.mp hf
  have whole : got.length ≤ 10 := Nat.le_of_eq (decodeRx_length hd)
  have chunk : decodeRx (s.rxFifo.take 10) = some (op, dw) := by
    rw [h.rxFifo, List.take_of_length_le whole, hd]
  refine ⟨_, (drainAttemptTakesOneChunk s ts h.phase h.turns).1 op dw chunk,
    ⟨h.phase, h.capacity, ?_, rfl⟩, rfl⟩
  rw [h.rxFifo]
  exact List.drop_eq_nil_of_le whole

/-- One round: the rest of a frame arrives, and one attempt takes the frame. -/
theorem Fed.round {got post : List Byte} {later : List Agent} {s : State}
    (h : Fed got (post.map Agent.peripheral ++ .sequencer :: later) s)
    (hf : (decodeRx (got ++ post)).isSome = true) :
    ∃ t, run (post.length + 1) s = .next t ∧ Fed [] later t := by
  induction post generalizing got s with
  | nil =>
    obtain ⟨t, ht, fed, _⟩ := Fed.decodes h (by simpa using hf)
    exact ⟨t, (run_one s).trans ht, fed⟩
  | cons b post ih =>
    obtain ⟨t, ht, fed, _⟩ := Fed.receives h
    obtain ⟨u, hu, fed'⟩ := ih fed (by simpa using hf)
    exact ⟨u, (run_succ_of_next ht).trans hu, fed'⟩

/-- Any number of rounds, one after the other. -/
theorem Fed.rounds {f : List Byte} (hf : (decodeRx f).isSome = true) (n : Nat) {s : State}
    (h : Fed [] (List.replicate n (f.map Agent.peripheral ++ [Agent.sequencer])).flatten s) :
    ∃ t, run s.turns.length s = .next t ∧ Fed [] [] t := by
  induction n generalizing s with
  | zero =>
    refine ⟨s, ?_, h⟩
    rw [h.turns]
    rfl
  | succ n ih =>
    rw [List.replicate_succ, List.flatten_cons, List.append_assoc] at h
    obtain ⟨t, ht, fed⟩ := Fed.round h hf
    obtain ⟨u, hu, fed'⟩ := ih fed
    refine ⟨u, ?_, fed'⟩
    have hlength : s.turns.length = (f.length + 1) + t.turns.length := by
      rw [h.turns, fed.turns]
      simp
      omega
    rw [hlength, run_add ht, hu]

/-- Somewhere in a round of the frame `f`: the bytes not there yet are still to come. -/
def MidRound (f : List Byte) (s : State) : Prop :=
  ∃ got post, got ++ post = f ∧ Fed got (post.map Agent.peripheral ++ [Agent.sequencer]) s

/-- Each step goes on in the round or ends it. -/
theorem midRound_step {f : List Byte} (hf : (decodeRx f).isSome = true) {s : State}
    (h : MidRound f s) :
    ∃ t, step s = .next t ∧ (MidRound f t ∨ Fed [] [] t) ∧ t.turnsAfter = s.turnsAfter := by
  obtain ⟨got, post, rfl, fed⟩ := h
  cases post with
  | nil =>
    obtain ⟨t, ht, fed', hafter⟩ := Fed.decodes fed (by simpa using hf)
    exact ⟨t, ht, .inr fed', hafter⟩
  | cons b post =>
    obtain ⟨t, ht, fed', hafter⟩ := Fed.receives fed
    exact ⟨t, ht, .inl ⟨got ++ [b], post, by simp, fed'⟩, hafter⟩

/-- Under a cycle of one round each step goes on in the round, ends it or begins it again. -/
theorem step_cycle {f : List Byte} {first : Agent} {rest : List Agent} {s : State}
    (hf : (decodeRx f).isSome = true)
    (hround : first :: rest = f.map Agent.peripheral ++ [Agent.sequencer])
    (h : MidRound f s ∨ Fed [] [] s) (hafter : s.turnsAfter = .cycle first rest) :
    ∃ t, step s = .next t ∧ (MidRound f t ∨ Fed [] [] t) ∧ t.turnsAfter = .cycle first rest := by
  obtain mid | between := h
  · obtain ⟨t, ht, h', e⟩ := midRound_step hf mid
    exact ⟨t, ht, h', e.trans hafter⟩
  · have startsOver : step s = step (s.setTurns (first :: rest)) :=
      (step_of_cycle between.turns hafter).trans
        (step_of_turns (s := s.setTurns (first :: rest)) rfl).symm
    have mid : MidRound f (s.setTurns (first :: rest)) :=
      ⟨[], f, rfl, between.phase, between.capacity, between.rxFifo, hround⟩
    obtain ⟨t, ht, h', e⟩ := midRound_step hf mid
    exact ⟨t, startsOver.trans ht, h', e.trans hafter⟩

/-- Under a cycle of one round the block is in DRAIN after any number of steps. -/
theorem run_cycle_drains {f : List Byte} {first : Agent} {rest : List Agent} {s : State}
    (hf : (decodeRx f).isSome = true)
    (hround : first :: rest = f.map Agent.peripheral ++ [Agent.sequencer]) (h : Fed [] [] s)
    (hafter : s.turnsAfter = .cycle first rest) (k : Nat) :
    ∃ t, run k s = .next t ∧ t.phase = .drain := by
  have upTo : ∃ t, run k s = .next t ∧ (MidRound f t ∨ Fed [] [] t) ∧
      t.turnsAfter = .cycle first rest := by
    induction k with
    | zero => exact ⟨s, rfl, .inr h, hafter⟩
    | succ k ih =>
      obtain ⟨t, ht, round, htafter⟩ := ih
      obtain ⟨u, hu, round', huafter⟩ := step_cycle hf hround round htafter
      exact ⟨u, by rw [run_add ht, run_one, hu], round', huafter⟩
  obtain ⟨t, ht, ⟨_, _, _, fed⟩ | fed, _⟩ := upTo
  · exact ⟨t, ht, fed.phase⟩
  · exact ⟨t, ht, fed.phase⟩

/-- A frame that decodes (R92). -/
def someFrame : List Byte := [0x7E, 0xFF, 0x06, 0x42, 0x00, 0x02, 0x00, 0x00, 0x00, 0xEF]

/-- A drain that is fed `someFrame` without end (R338, log 17). -/
def endlessDrain : State :=
  { State.reset with
    phase := .drain, rxFifo := []
    turnsAfter := .cycle (.peripheral 0x7E) (someFrame.tail.map Agent.peripheral ++ [.sequencer]) }

/-- Settles O59; the drain that never ends is one under a cycle of rounds. -/
theorem drainLastsWhileFramesArrive : Obligations.DrainLastsWhileFramesArrive := by
  unfold Obligations.DrainLastsWhileFramesArrive
  refine ⟨fun s f n hp hrx hcap hf hts => ?_, fun s f first rest hp hrx hcap hf hts hafter hround =>
    run_cycle_drains hf hround ⟨hp, hcap, hrx, hts⟩ hafter, fun ends => ?_⟩
  · obtain ⟨t, ht, fed⟩ := Fed.rounds hf n ⟨hp, hcap, hrx, hts⟩
    exact ⟨t, ht, fed.phase, fed.rxFifo, fed.turns⟩
  · obtain ⟨k, t, ht, hne⟩ := ends endlessDrain rfl
    obtain ⟨t', ht', hp⟩ := run_cycle_drains (s := endlessDrain) (f := someFrame) rfl rfl
      ⟨rfl, rfl, rfl, rfl⟩ rfl k
    cases ht.symm.trans ht'
    exact hne hp

/-! ### A command under any order of turns (R139, R151)

The turns of a run are split into those taken, `before`, and those left; what holds of the command in flight
is said of `before` and of the state that has been reached. -/

/-- In the run of the turns `as` from `u`, the turns `before` have come to `s` and `rest` are left. -/
structure Reached (u : State) (as before rest : List Agent) (s : State) : Prop where
  split : as = before ++ rest
  run : Machine.run before.length { u with turns := as } = .next s

/-- The latches of the command in flight, the host's queue and the parameters are in `t` as in `s`. -/
structure SameLatches (s t : State) : Prop where
  cmdSel : t.cmdSel = s.cmdSel
  txOp : t.txOp = s.txOp
  txLo : t.txLo = s.txLo
  txHi : t.txHi = s.txHi
  requests : t.requests = s.requests
  params : t.params = s.params

theorem SameLatches.trans {s t u : State} (h : SameLatches s t) (h' : SameLatches t u) :
    SameLatches s u :=
  ⟨h'.cmdSel.trans h.cmdSel, h'.txOp.trans h.txOp, h'.txLo.trans h.txLo, h'.txHi.trans h.txHi,
    h'.requests.trans h.requests, h'.params.trans h.params⟩

theorem Aside.latches {a : Agent} {s t : State} (h : Aside a s t) : SameLatches s t := by
  rw [h.rest]
  exact ⟨rfl, rfl, rfl, rfl, rfl, rfl⟩

theorem Aside.readable {a : Agent} {s t : State} (h : Aside a s t) : Registers.SameReadable s t := by
  rw [h.rest]
  exact { Registers.sameReadable_refl s with }

/-- Of the sequencer's steps only INIT's second frame writes the latches (R142). -/
theorem sequencerStep_latches {s : State} (hi : s.cmdSel ≠ .init) :
    SameLatches s (sequencerStep s) := by
  obtain ⟨_, e⟩ | ⟨_, _, e⟩ | ⟨_, _, e⟩ | ⟨_, e⟩ | ⟨_, e⟩ := sequencerStep_cases s <;> rw [e]
  · obtain ⟨_, e⟩ | ⟨_, e⟩ := txByteStep_cases s <;> rw [e] <;> exact ⟨rfl, rfl, rfl, rfl, rfl, rfl⟩
  · exact ⟨rfl, rfl, rfl, rfl, rfl, rfl⟩
  · obtain ⟨_, e⟩ | ⟨_, hinit, _, _⟩ | ⟨_, _, e⟩ := settledStep_cases s
    · rw [e]; exact ⟨rfl, rfl, rfl, rfl, rfl, rfl⟩
    · exact absurd hinit hi
    · rw [e]; exact ⟨rfl, rfl, rfl, rfl, rfl, rfl⟩
  · obtain ⟨_, _, _, e⟩ | ⟨_, _, e⟩ | ⟨_, _, _, e⟩ | ⟨_, _, _, e⟩ := drainAttempt_cases s <;> rw [e] <;>
      exact ⟨rfl, rfl, rfl, rfl, rfl, rfl⟩
  · exact ⟨rfl, rfl, rfl, rfl, rfl, rfl⟩

/-- Induction over the turns after a command other than INIT was issued, with no `reset` and no further
request: a turn is the sequencer's or leaves the command alone, and the latches stay. -/
theorem command_induction {I : List Agent → State → Prop} {as : List Agent} {u v : State}
    (hq : u.requests = []) (hi : u.cmdSel ≠ .init) (hreset : Agent.reset ∉ as)
    (start : I [] { u with turns := as })
    (sequencer : ∀ before rest s, Reached u as before (.sequencer :: rest) s →
      Reached u as (before ++ [.sequencer]) rest (sequencerStep (s.setTurns rest)) →
      SameLatches u s → I before s →
      I (before ++ [.sequencer]) (sequencerStep (s.setTurns rest)))
    (aside : ∀ before a s t, Aside a s t → SameLatches u s → I before s → I (before ++ [a]) t)
    (h : run as.length { u with turns := as } = .next v) : SameLatches u v ∧ I as v := by
  refine run_induction (I := fun before s => SameLatches u s ∧ I before s)
    ⟨⟨rfl, rfl, rfl, rfl, rfl, rfl⟩, start⟩ (fun before a rest s t has hs hts ht hI => ?_) h
  obtain ⟨latches, hI⟩ := hI
  have ha : a ≠ .reset := fun e => hreset (by rw [has, e]; simp)
  have hqs : (s.setTurns rest).requests = [] := latches.requests.trans hq
  obtain ⟨rfl, rfl⟩ | haside := agentTurn_sequencer_or_aside ha (fun _ => hqs) ht
  · have kept : SameLatches s (sequencerStep (s.setTurns rest)) :=
      { sequencerStep_latches (s := s.setTurns rest)
          (show s.cmdSel ≠ .init from fun e => hi (latches.cmdSel.symm.trans e)) with }
    have reached : Reached u as (before ++ [.sequencer]) rest (sequencerStep (s.setTurns rest)) :=
      ⟨by rw [has]; simp, by
        rw [List.length_append, run_add hs, List.length_singleton, run_one, step_of_turns hts, ht]⟩
    exact ⟨latches.trans kept, sequencer before rest s ⟨has, hs⟩ reached latches hI⟩
  · have haside' : Aside a s t := { haside with }
    exact ⟨latches.trans haside'.latches, aside before a s t haside' latches hI⟩

/-! ### The frame and its settle delay -/

/-- The frame of the latches (R91). -/
def loadedFrame (s : State) : List Byte := encodeTx s.txOp s.txLo s.txHi

theorem SameLatches.frame {s t : State} (h : SameLatches s t) :
    loadedFrame t = loadedFrame s := by
  unfold loadedFrame
  rw [h.txOp, h.txLo, h.txHi]

/-- The timer was loaded with the delay of the opcode in TX_OP at some point of `before`, and what has gone
off it since are ticks (R135, R140). -/
def WaitingSince (u : State) (as before : List Agent) (t : State) : Prop :=
  ∃ sent waiting loaded, before = sent ++ waiting ∧
    run sent.length { u with turns := as } = .next loaded ∧
    loaded.phase = .settle ∧ loaded.settleMs = settleDelay t.txOp ∧ loaded.txLog = t.txLog ∧
    (settleDelay t.txOp).toNat ≤ t.settleMs.toNat + ticksIn waiting

/-- A frame on its way, that found the transmit stream at `log`: some of its bytes are sent, or all are and
the settle delay runs. -/
inductive FrameStage (u : State) (as : List Agent) (log : List Byte) (before : List Agent)
    (t : State) : Prop
  | sending (phase : t.phase = .tx) (txLog : t.txLog = log ++ (loadedFrame t).take t.txIdx.toNat)
  | settling (phase : t.phase = .settle) (txLog : t.txLog = log ++ loadedFrame t)
      (waiting : WaitingSince u as before t)

theorem FrameStage.phase {u t : State} {as before : List Agent} {log : List Byte}
    (h : FrameStage u as log before t) : t.phase = .tx ∨ t.phase = .settle := by
  cases h with
  | sending phase => exact .inl phase
  | settling phase => exact .inr phase

theorem WaitingSince.turn {u s t : State} {as before : List Agent} {a : Agent}
    (h : WaitingSince u as before s) (hop : t.txOp = s.txOp) (hlog : t.txLog = s.txLog)
    (ticks : s.settleMs.toNat ≤ t.settleMs.toNat + ticksIn [a]) :
    WaitingSince u as (before ++ [a]) t := by
  obtain ⟨sent, waiting, loaded, rfl, hrun, hp, hm, hl, hle⟩ := h
  refine ⟨sent, waiting ++ [a], loaded, List.append_assoc _ _ _, hrun, hp, hop ▸ hm, hl.trans hlog.symm, ?_⟩
  rw [hop, ticksIn_append]
  omega

/-- The other agents leave a frame on its way; a tick is counted (R140, R141). -/
theorem FrameStage.aside {u s t : State} {as before : List Agent} {a : Agent} {log : List Byte}
    (h : FrameStage u as log before s) (ha : Aside a s t) :
    FrameStage u as log (before ++ [a]) t := by
  have hframe : loadedFrame t = loadedFrame s := ha.latches.frame
  cases h with
  | sending phase txLog =>
    exact .sending (ha.phase.trans phase) (by rw [ha.txLog, ha.txIdx, hframe, txLog])
  | settling phase txLog waiting =>
    exact .settling (ha.phase.trans phase) (by rw [ha.txLog, hframe, txLog])
      (waiting.turn ha.latches.txOp ha.txLog ha.ticks)

/-- The sequencer sends a frame's next byte (R135). -/
theorem FrameStage.sends {u s : State} {as before rest : List Agent} {log : List Byte}
    (reached : Reached u as (before ++ [.sequencer]) rest (sequencerStep (s.setTurns rest)))
    (hp : s.phase = .tx) (hlog : s.txLog = log ++ (loadedFrame s).take s.txIdx.toNat) :
    FrameStage u as log (before ++ [.sequencer]) (sequencerStep (s.setTurns rest)) := by
  have sent : s.txLog ++ [s.nextTxByte] = log ++ (loadedFrame s).take (s.txIdx.toNat + 1) := by
    rw [hlog, List.append_assoc]
    exact congrArg (log ++ ·) (take_frame_succ s).symm
  rw [sequencerStep_tx (s := s.setTurns rest) hp] at reached ⊢
  by_cases hi : s.txIdx = 7#3
  · rw [txByteStep_last (s := s.setTurns rest) hi] at reached ⊢
    have whole : s.txLog ++ [s.nextTxByte] = log ++ loadedFrame s := by rw [sent, hi]; rfl
    exact .settling rfl whole ⟨_, [], _, (List.append_nil _).symm, reached.run, rfl, rfl, rfl,
      Nat.le_refl _⟩
  · rw [txByteStep_more (s := s.setTurns rest) hi]
    have hidx : (s.txIdx + 1#3).toNat = s.txIdx.toNat + 1 := by bv_omega
    exact .sending hp (by dsimp only [State.setTurns]; rw [hidx]; exact sent)

/-- The frame has been sent and its settle delay has passed. -/
structure FrameSent (u : State) (as : List Agent) (log : List Byte) (t : State) : Prop where
  txLog : t.txLog = log ++ loadedFrame t
  waits : waitsAfter u as (log ++ loadedFrame t) t.txOp

/-- The sequencer moves a frame on, or finds it sent and its timer run out (R135, R141, R142). -/
theorem FrameStage.sequencer {u s : State} {as before rest : List Agent} {log : List Byte}
    (h : FrameStage u as log before s) (here : Reached u as before (.sequencer :: rest) s)
    (next : Reached u as (before ++ [.sequencer]) rest (sequencerStep (s.setTurns rest))) :
    FrameStage u as log (before ++ [.sequencer]) (sequencerStep (s.setTurns rest)) ∨
    (sequencerStep (s.setTurns rest) = settledStep (s.setTurns rest) ∧ s.phase = .settle ∧
      FrameSent u as log s) := by
  cases h with
  | sending phase txLog => exact .inl (FrameStage.sends next phase txLog)
  | settling phase txLog waiting =>
    by_cases hm : s.settleMs = 0#10
    · obtain ⟨sent, waited, loaded, rfl, hrun, hpl, hml, hlog, hle⟩ := waiting
      refine .inr ⟨sequencerStep_settled (s := s.setTurns rest) phase hm, phase, txLog, ?_⟩
      have toHere : run waited.length loaded = .next s := by
        rw [← run_add hrun, ← List.length_append]
        exact here.run
      refine ⟨sent, waited, .sequencer :: rest, loaded, s, here.split, hrun, hpl, hml,
        hlog.trans txLog, toHere, phase, hm, txLog, ?_⟩
      simpa [hm] using hle
    · rw [sequencerStep_settling (s := s.setTurns rest) phase hm]
      exact .inl (.settling phase txLog (waiting.turn rfl rfl (Nat.le_add_right _ _)))

theorem FrameSent.of_same {u s t : State} {as : List Agent} {log : List Byte}
    (h : FrameSent u as log s) (hlog : t.txLog = s.txLog) (latches : SameLatches s t) :
    FrameSent u as log t := by
  constructor
  · rw [hlog, latches.frame, h.txLog]
  · rw [latches.frame, latches.txOp]
    exact h.waits

/-- What an `issue` that loads a frame takes over from the command and from the state before it (R131). -/
structure Loads (i : Instr) (s u : State) : Prop where
  cmdSel : u.cmdSel = i.sel
  txIdx : u.txIdx = 0#3
  txLog : u.txLog = s.txLog
  rxFifo : u.rxFifo = s.rxFifo
  requests : u.requests = s.requests
  params : u.params = s.params
  resValid : u.resValid = s.resValid
  resOp : u.resOp = s.resOp
  resDw : u.resDw = s.resDw
  resVal : u.resVal = s.resVal
  faultInit : u.faultInit = s.faultInit

theorem exec_loads {i : Instr} {s u : State} (h : exec i s = .next u) (htx : u.phase = .tx) :
    Loads i s u := by
  obtain ⟨hp, ⟨_, _, _, _, rfl, _⟩ | ⟨rfl, _⟩⟩ := exec_eq_next h
  · exact ⟨rfl, rfl, rfl, rfl, rfl, rfl, rfl, rfl, rfl, rfl, rfl⟩
  · cases hp.symm.trans htx

/-- A frame is on its way when its command has been issued. -/
theorem FrameStage.start {i : Instr} {s u : State} (h : exec i s = .next u) (htx : u.phase = .tx)
    (as : List Agent) : FrameStage u as u.txLog [] { u with turns := as } := by
  refine .sending htx ?_
  rw [(exec_loads h htx).txIdx]
  exact (List.append_nil _).symm

/-- A sent frame and its delay, in terms of the state before the `issue` and of the latches it wrote. -/
theorem FrameSent.since_issue {i : Instr} {s u v : State} {as : List Agent}
    (h : FrameSent u as u.txLog v) (hexec : exec i s = .next u) (htx : u.phase = .tx)
    (latches : SameLatches u v) :
    v.txLog = s.txLog ++ loadedFrame u ∧ waitsAfter u as (s.txLog ++ loadedFrame u) u.txOp := by
  rw [← (exec_loads hexec htx).txLog, ← latches.frame, ← latches.txOp]
  exact ⟨h.txLog, h.waits⟩

/-- Only a drain takes bytes off RXFIFO (R64). -/
theorem sequencerStep_keeps_rxFifo {s : State} (h : s.phase ≠ .drain) :
    (sequencerStep s).rxFifo = s.rxFifo := by
  obtain ⟨_, _, same⟩ | ⟨hdrain, _⟩ | same := Memory.sequencerStep_streams s
  · exact same
  · exact absurd hdrain h
  · exact same.rxFifo

/-! ### A command that does not drain (R142, R151) -/

/-- Where a command that does not drain stands. -/
inductive WireStage (u : State) (as before : List Agent) (t : State) : Prop
  | inFrame (stage : FrameStage u as u.txLog before t)
  | done (phase : t.phase = .idle) (sent : FrameSent u as u.txLog t)

theorem sameReadable_trans {s t u : State} (h : Registers.SameReadable s t)
    (h' : Registers.SameReadable t u) : Registers.SameReadable s u :=
  ⟨h'.curdev.trans h.curdev, h'.cureq.trans h.cureq, h'.resValid.trans h.resValid,
    h'.resOp.trans h.resOp, h'.resDw.trans h.resDw, h'.resVal.trans h.resVal,
    h'.faultInit.trans h.faultInit⟩

theorem received_aside {s t : State} {a : Agent} {before : List Agent} {rx : List Byte}
    (ha : Aside a s t) (hcap : s.params.rxCapacity = none) (h : s.rxFifo = rx ++ arrivals before) :
    t.rxFifo = rx ++ arrivals (before ++ [a]) := by
  rw [ha.arrived hcap, arrivals_append, ← List.append_assoc, h]

theorem WireStage.aside {u s t : State} {as before : List Agent} {a : Agent}
    (h : WireStage u as before s) (ha : Aside a s t) : WireStage u as (before ++ [a]) t := by
  cases h with
  | inFrame stage => exact .inFrame (stage.aside ha)
  | done phase sent => exact .done (ha.phase.trans phase) (sent.of_same ha.txLog ha.latches)

theorem WireStage.sequencer {u s : State} {as before rest : List Agent}
    (h : WireStage u as before s) (here : Reached u as before (.sequencer :: rest) s)
    (next : Reached u as (before ++ [.sequencer]) rest (sequencerStep (s.setTurns rest)))
    (hq : s.txOp ∉ querySet) (hi : s.cmdSel ≠ .init) :
    WireStage u as (before ++ [.sequencer]) (sequencerStep (s.setTurns rest)) := by
  cases h with
  | inFrame stage =>
    obtain moved | ⟨e, _, sent⟩ := stage.sequencer here next
    · exact .inFrame moved
    · have ends : ¬ (s.cmdSel = .init ∧ s.mstep = 0#1) := fun h => hi h.1
      rw [e, settledStep_ends (s := s.setTurns rest) hq ends]
      exact .done rfl (sent.of_same rfl ⟨rfl, rfl, rfl, rfl, rfl, rfl⟩)
  | done phase sent =>
    rw [sequencerStep_rests (s := s.setTurns rest) (.inl phase)]
    exact .done phase (sent.of_same rfl ⟨rfl, rfl, rfl, rfl, rfl, rfl⟩)

theorem FrameStage.phase_ne_drain {u s : State} {as before : List Agent} {log : List Byte}
    (h : FrameStage u as log before s) : s.phase ≠ .drain := by
  obtain hp | hp := h.phase <;> rw [hp] <;> decide

theorem WireStage.phase_ne_drain {u s : State} {as before : List Agent}
    (h : WireStage u as before s) : s.phase ≠ .drain := by
  cases h with
  | inFrame stage => exact stage.phase_ne_drain
  | done phase => rw [phase]; decide

/-- What holds of a command that does not drain all along: where it stands, what it leaves unchanged, and
that an unbounded RXFIFO only gains. -/
structure WireRun (u : State) (as before : List Agent) (t : State) : Prop where
  stage : WireStage u as before t
  readable : Registers.SameReadable u t
  received : t.params.rxCapacity = none → t.rxFifo = u.rxFifo ++ arrivals before

theorem WireRun.aside {u s t : State} {as before : List Agent} {a : Agent}
    (h : WireRun u as before s) (ha : Aside a s t) : WireRun u as (before ++ [a]) t where
  stage := h.stage.aside ha
  readable := sameReadable_trans h.readable ha.readable
  received hcap :=
    have hcap' : s.params.rxCapacity = none := ha.latches.params ▸ hcap
    received_aside ha hcap' (h.received hcap')

theorem WireRun.sequencer {u s : State} {as before rest : List Agent}
    (h : WireRun u as before s) (here : Reached u as before (.sequencer :: rest) s)
    (next : Reached u as (before ++ [.sequencer]) rest (sequencerStep (s.setTurns rest)))
    (hq : s.txOp ∉ querySet) (hi : s.cmdSel ≠ .init) :
    WireRun u as (before ++ [.sequencer]) (sequencerStep (s.setTurns rest)) where
  stage := h.stage.sequencer here next hq hi
  readable := by
    obtain ⟨hdrain, _⟩ | same := Registers.sequencerStep_ends_or_sameReadable (s.setTurns rest)
    · exact absurd hdrain h.stage.phase_ne_drain
    · exact sameReadable_trans h.readable { same with }
  received hcap := by
    rw [arrivals_append, arrivals, arrivals, List.append_nil,
      sequencerStep_keeps_rxFifo (s := s.setTurns rest) h.stage.phase_ne_drain]
    exact h.received (Scope.sequencerStep_params (s.setTurns rest) ▸ hcap)

/-- Settles O54: in IDLE the command is done. -/
theorem wireCommandUnderAnyInterleaving : Obligations.WireCommandUnderAnyInterleaving := by
  unfold Obligations.WireCommandUnderAnyInterleaving
  intro i s u v as hexec htx hq hi hreq hreset hrun hidle
  have loads := exec_loads hexec htx
  have hinit : u.cmdSel ≠ .init := loads.cmdSel ▸ hi
  have start : WireRun u as [] { u with turns := as } :=
    ⟨.inFrame (FrameStage.start hexec htx as), { Registers.sameReadable_refl u with },
      fun _ => (List.append_nil _).symm⟩
  obtain ⟨latches, wire⟩ := command_induction (loads.requests.trans hreq) hinit hreset
    start (fun before rest t here next latches h =>
      h.sequencer here next (latches.txOp ▸ hq) (latches.cmdSel ▸ hinit))
    (fun before a t t' ha _ h => h.aside ha) hrun
  cases wire.stage with
  | inFrame stage => obtain hp | hp := stage.phase <;> cases hidle.symm.trans hp
  | done _ sent =>
    obtain ⟨hlog, hwaits⟩ := sent.since_issue hexec htx latches
    have readable := wire.readable
    refine ⟨hlog, hwaits, fun hcap => ?_, ?_, ?_, ?_, ?_, readable.curdev, readable.cureq, ?_⟩
    · rw [wire.received (latches.params ▸ loads.params ▸ hcap), loads.rxFifo]
    · exact readable.resValid.trans loads.resValid
    · exact readable.resOp.trans loads.resOp
    · exact readable.resDw.trans loads.resDw
    · exact readable.resVal.trans loads.resVal
    · exact readable.faultInit.trans loads.faultInit

/-! ### A query (R144, R148, R151, R269) -/

/-- The bytes hold, aligned from their start, a chunk that decodes to the answer `(op, dw)`. -/
def HoldsAnswer (bytes : List Byte) (op : Byte) (dw : Word) : Prop :=
  ∃ n, decodeRx ((bytes.drop (10 * n)).take 10) = some (op, dw)

theorem HoldsAnswer.append {bytes : List Byte} {op : Byte} {dw : Word} (h : HoldsAnswer bytes op dw)
    (more : List Byte) : HoldsAnswer (bytes ++ more) op dw := by
  obtain ⟨n, hd⟩ := h
  have whole := decodeRx_length hd
  rw [List.length_take, List.length_drop] at whole
  refine ⟨n, ?_⟩
  rw [List.drop_append_of_le_length (by omega), List.take_append_of_le_length (by simp; omega), hd]

/-- The drain's first attempt has been made, on what was there and had arrived by then, and `answered` says
whether it decoded (R269). -/
def FirstAttempted (u : State) (as : List Agent) (answered : Bool) : Prop :=
  ∃ before w, firstAttempt u as before w ∧ w.rxFifo = u.rxFifo ++ arrivals before ∧
    (answered = false ↔ decodeRx (w.rxFifo.take 10) = none)

/-- The drain of a query, `n` chunks on, of the bytes that were there and arrived. -/
structure Draining (u : State) (as : List Agent) (bytes : List Byte) (t : State) (n : Nat) : Prop where
  phase : t.phase = .drain
  taken : 10 * n ≤ bytes.length
  rxFifo : t.rxFifo = bytes.drop (10 * n)
  untried : t.lastValid = false → n = 0
  answer : t.lastValid = true → FirstAttempted u as true ∧ HoldsAnswer bytes t.lastOp t.lastDw

/-- What a query reports when it is done, and that it took bytes off the front only (R148). -/
structure Reported (u : State) (as : List Agent) (bytes : List Byte) (t : State) : Prop where
  phase : t.phase = .idle
  rxFifo : ∃ k ≤ bytes.length, t.rxFifo = bytes.drop k
  attempted : FirstAttempted u as t.resValid
  answer : t.resValid = true →
    HoldsAnswer bytes t.resOp t.resDw ∧ t.resVal = answerValue t.cmdSel t.resDw
  noAnswer : t.resValid = false → t.resOp = 0#8 ∧ t.resDw = 0#16 ∧ t.resVal = 0#32

/-- Where a query stands. -/
inductive QueryStage (u : State) (as before : List Agent) (t : State) : Prop
  | inFrame (stage : FrameStage u as u.txLog before t) (rxFifo : t.rxFifo = u.rxFifo ++ arrivals before)
  | draining (sent : FrameSent u as u.txLog t) (n : Nat)
      (drain : Draining u as (u.rxFifo ++ arrivals before) t n)
  | done (sent : FrameSent u as u.txLog t)
      (report : Reported u as (u.rxFifo ++ arrivals before) t)

/-- What arrives during a drain lies behind what is still to be taken. -/
theorem Draining.aside {u s t : State} {as : List Agent} {bytes : List Byte} {n : Nat} {a : Agent}
    (h : Draining u as bytes s n) (ha : Aside a s t) (hcap : s.params.rxCapacity = none) :
    Draining u as (bytes ++ arrivals [a]) t n := by
  have hrx : t.rxFifo = (bytes ++ arrivals [a]).drop (10 * n) := by
    rw [ha.arrived hcap, h.rxFifo, List.drop_append_of_le_length h.taken]
  have htaken : 10 * n ≤ (bytes ++ arrivals [a]).length := by
    rw [List.length_append]
    exact Nat.le_add_right_of_le h.taken
  generalize arrivals [a] = more at hrx htaken
  rw [ha.rest]
  exact ⟨h.phase, htaken, hrx, h.untried,
    fun hv => ⟨(h.answer hv).1, (h.answer hv).2.append more⟩⟩

theorem Reported.aside {u s t : State} {as : List Agent} {bytes : List Byte} {a : Agent}
    (h : Reported u as bytes s) (ha : Aside a s t) (hcap : s.params.rxCapacity = none) :
    Reported u as (bytes ++ arrivals [a]) t := by
  obtain ⟨k, hk, hrxs⟩ := h.rxFifo
  have hrx : ∃ k ≤ (bytes ++ arrivals [a]).length, t.rxFifo = (bytes ++ arrivals [a]).drop k := by
    refine ⟨k, ?_, ?_⟩
    · rw [List.length_append]
      exact Nat.le_add_right_of_le hk
    · rw [ha.arrived hcap, hrxs, List.drop_append_of_le_length hk]
  generalize arrivals [a] = more at hrx
  rw [ha.rest]
  exact ⟨h.phase, hrx, h.attempted,
    fun hv => ⟨(h.answer hv).1.append more, (h.answer hv).2⟩, h.noAnswer⟩

theorem QueryStage.aside {u s t : State} {as before : List Agent} {a : Agent}
    (h : QueryStage u as before s) (ha : Aside a s t) (hcap : s.params.rxCapacity = none) :
    QueryStage u as (before ++ [a]) t := by
  have hbytes : u.rxFifo ++ arrivals (before ++ [a]) = u.rxFifo ++ arrivals before ++ arrivals [a] := by
    rw [arrivals_append, List.append_assoc]
  cases h with
  | inFrame stage rxFifo => exact .inFrame (stage.aside ha) (received_aside ha hcap rxFifo)
  | draining sent n drain =>
    exact .draining (sent.of_same ha.txLog ha.latches) n (hbytes ▸ drain.aside ha hcap)
  | done sent report =>
    exact .done (sent.of_same ha.txLog ha.latches) (hbytes ▸ report.aside ha hcap)

/-- Before the drain has an answer its next attempt is the first. -/
theorem Draining.firstAttempted {u s : State} {as before rest : List Agent} {n : Nat}
    (h : Draining u as (u.rxFifo ++ arrivals before) s n)
    (here : Reached u as before (.sequencer :: rest) s) (hv : s.lastValid = false) {answered : Bool}
    (hd : answered = false ↔ decodeRx (s.rxFifo.take 10) = none) : FirstAttempted u as answered := by
  refine ⟨before, s, ⟨⟨rest, here.split⟩, here.run, h.phase, hv⟩, ?_, hd⟩
  rw [h.rxFifo, h.untried hv]
  rfl

/-- An attempt that decodes makes the chunk the running answer (R145). -/
theorem Draining.decodes {u s : State} {as before rest : List Agent} {n : Nat} {op : Byte} {dw : Word}
    (h : Draining u as (u.rxFifo ++ arrivals before) s n)
    (here : Reached u as before (.sequencer :: rest) s)
    (hd : decodeRx (s.rxFifo.take 10) = some (op, dw)) :
    Draining u as (u.rxFifo ++ arrivals before) { s.setTurns rest with
      rxFifo := s.rxFifo.drop 10, lastValid := true, lastOp := op, lastDw := dw } (n + 1) := by
  have whole := decodeRx_length hd
  rw [h.rxFifo, List.length_take, List.length_drop] at whole
  have attempted : FirstAttempted u as true := by
    cases hv : s.lastValid with
    | true => exact (h.answer hv).1
    | false => exact h.firstAttempted here hv (by simp [hd])
  exact
    { phase := h.phase
      taken := by omega
      rxFifo := by
        show s.rxFifo.drop 10 = _
        rw [h.rxFifo, List.drop_drop]
        rfl
      untried := fun hv => by cases hv
      answer := fun _ => ⟨attempted, n, h.rxFifo ▸ hd⟩ }

/-- What an attempt that ends the drain leaves is still the end of what was there and arrived. -/
theorem exists_drop_drop (bytes : List Byte) (m : Nat) :
    ∃ k ≤ bytes.length, (bytes.drop m).drop 10 = bytes.drop k := by
  by_cases hm : m + 10 ≤ bytes.length
  · exact ⟨m + 10, hm, List.drop_drop⟩
  · refine ⟨bytes.length, Nat.le_refl _, ?_⟩
    rw [List.drop_drop, List.drop_eq_nil_of_le (by omega), List.drop_length]

/-- An attempt that does not decode ends the query with the running answer, or with zeros (R148). -/
theorem Draining.ends {u s : State} {as before rest : List Agent} {n : Nat}
    (h : Draining u as (u.rxFifo ++ arrivals before) s n)
    (here : Reached u as before (.sequencer :: rest) s) (hi : s.cmdSel ≠ .init)
    (hdrains : drains s.cmdSel = true) (hd : decodeRx (s.rxFifo.take 10) = none) :
    Reported u as (u.rxFifo ++ arrivals before) (completeCommand ((s.setTurns rest).rxDrop 10)) := by
  have hrx : ∃ k ≤ (u.rxFifo ++ arrivals before).length,
      s.rxFifo.drop 10 = (u.rxFifo ++ arrivals before).drop k := by
    rw [h.rxFifo]
    exact exists_drop_drop _ _
  cases hv : s.lastValid with
  | true =>
    obtain ⟨attempted, holds⟩ := h.answer hv
    rw [completeCommand_answered (s := (s.setTurns rest).rxDrop 10) hv]
    exact ⟨rfl, hrx, attempted, fun _ => ⟨holds, resultValue_answer hdrains s.lastOp s.lastDw⟩,
      fun hnone => by cases hnone⟩
  | false =>
    rw [completeCommand_unanswered (s := (s.setTurns rest).rxDrop 10) hv hi]
    exact ⟨rfl, hrx, h.firstAttempted here hv (by simp [hd]), fun hsome => (by cases hsome),
      fun _ => ⟨rfl, rfl, rfl⟩⟩

theorem QueryStage.sequencer {u s : State} {as before rest : List Agent}
    (h : QueryStage u as before s) (here : Reached u as before (.sequencer :: rest) s)
    (next : Reached u as (before ++ [.sequencer]) rest (sequencerStep (s.setTurns rest)))
    (hq : s.txOp ∈ querySet) (hi : s.cmdSel ≠ .init) (hdrains : drains s.cmdSel = true) :
    QueryStage u as (before ++ [.sequencer]) (sequencerStep (s.setTurns rest)) := by
  have latches : SameLatches s (sequencerStep (s.setTurns rest)) :=
    { sequencerStep_latches (s := s.setTurns rest) hi with }
  have hbytes : u.rxFifo ++ arrivals (before ++ [.sequencer]) = u.rxFifo ++ arrivals before := by
    rw [arrivals_append, arrivals, arrivals, List.append_nil]
  cases h with
  | inFrame stage rxFifo =>
    obtain moved | ⟨e, _, sent⟩ := stage.sequencer here next
    · refine .inFrame moved ?_
      rw [sequencerStep_keeps_rxFifo (s := s.setTurns rest) stage.phase_ne_drain, hbytes]
      exact rxFifo
    · rw [e, settledStep_drains (s := s.setTurns rest) hq]
      exact .draining (sent.of_same rfl ⟨rfl, rfl, rfl, rfl, rfl, rfl⟩) 0
        (hbytes ▸ ⟨rfl, Nat.zero_le _, rxFifo, fun _ => rfl, fun hv => by cases hv⟩)
  | draining sent n drain =>
    rw [sequencerStep_drain (s := s.setTurns rest) drain.phase] at latches ⊢
    have sent' := sent.of_same (Memory.drainAttempt_streams (s.setTurns rest)).1 latches
    cases hd : decodeRx (s.rxFifo.take 10) with
    | some r =>
      rw [drainAttempt_decodes (s := s.setTurns rest) (op := r.1) (dw := r.2) hd] at sent' ⊢
      exact .draining sent' (n + 1) (hbytes ▸ drain.decodes here hd)
    | none =>
      rw [drainAttempt_ends (s := s.setTurns rest) hd] at sent' ⊢
      exact .done sent' (hbytes ▸ drain.ends here hi hdrains hd)
  | done sent report =>
    rw [sequencerStep_rests (s := s.setTurns rest) (.inl report.phase)]
    exact .done (sent.of_same rfl ⟨rfl, rfl, rfl, rfl, rfl, rfl⟩) (hbytes ▸ { report with })

/-- The session registers and FAULT_INIT are in `t` as in `s`. -/
structure SameSession (s t : State) : Prop where
  curdev : t.curdev = s.curdev
  cureq : t.cureq = s.cureq
  faultInit : t.faultInit = s.faultInit

/-- No step of the sequencer writes the session registers, and FAULT_INIT only for INIT (R34 to R36). -/
theorem sequencerStep_session {s : State} (hi : s.cmdSel ≠ .init) :
    SameSession s (sequencerStep s) := by
  obtain ⟨_, _, e⟩ | same := Registers.sequencerStep_ends_or_sameReadable s
  · obtain ⟨hcurdev, hcureq⟩ := Registers.completeCommand_session (s.rxDrop 10)
    obtain hfault | ⟨hinit, _⟩ := Registers.completeCommand_faultInit (s.rxDrop 10)
    · rw [e]
      exact ⟨hcurdev, hcureq, hfault⟩
    · exact absurd hinit hi
  · exact { same with }

/-- An `issue` that sends a query is that of a command other than INIT that drains, and writes no session
register (R34, R35, R266). -/
theorem exec_loads_query {i : Instr} {s u : State} (h : exec i s = .next u) (htx : u.phase = .tx)
    (hq : u.txOp ∈ querySet) :
    i.sel ≠ .init ∧ drains i.sel = true ∧ u.curdev = s.curdev ∧ u.cureq = s.cureq := by
  obtain ⟨hp, ⟨op, _, _, _, rfl, _, hselects, hdevice, hequalizer, hdrains⟩ | ⟨rfl, _⟩⟩ :=
    exec_eq_next h
  · have drain : drains i.sel = true := hdrains hq
    have notInit : i.sel ≠ .init := by
      intro hi
      have hq' : op ∈ querySet := hq
      rw [hselects hi] at hq'
      exact absurd hq' (by decide)
    refine ⟨notInit, drain, ?_, ?_⟩
    · by_contra hne
      obtain hsel | hsel : i.sel = .devsel ∨ i.sel = .init := by simpa using (hdevice hne).1
      · rw [hsel] at drain; cases drain
      · exact notInit hsel
    · by_contra hne
      rw [(hequalizer hne).1] at drain
      cases drain
  · cases hp.symm.trans htx

/-- What holds of a query all along: where it stands, and that it leaves the session registers. -/
structure QueryRun (u : State) (as before : List Agent) (t : State) : Prop where
  stage : QueryStage u as before t
  session : SameSession u t

theorem QueryRun.aside {u s t : State} {as before : List Agent} {a : Agent}
    (h : QueryRun u as before s) (ha : Aside a s t) (hcap : s.params.rxCapacity = none) :
    QueryRun u as (before ++ [a]) t where
  stage := h.stage.aside ha hcap
  session :=
    ⟨ha.readable.curdev.trans h.session.curdev, ha.readable.cureq.trans h.session.cureq,
      ha.readable.faultInit.trans h.session.faultInit⟩

theorem QueryRun.sequencer {u s : State} {as before rest : List Agent}
    (h : QueryRun u as before s) (here : Reached u as before (.sequencer :: rest) s)
    (next : Reached u as (before ++ [.sequencer]) rest (sequencerStep (s.setTurns rest)))
    (hq : s.txOp ∈ querySet) (hi : s.cmdSel ≠ .init) (hdrains : drains s.cmdSel = true) :
    QueryRun u as (before ++ [.sequencer]) (sequencerStep (s.setTurns rest)) where
  stage := h.stage.sequencer here next hq hi hdrains
  session :=
    have kept := sequencerStep_session (s := s.setTurns rest) hi
    ⟨kept.curdev.trans h.session.curdev, kept.cureq.trans h.session.cureq,
      kept.faultInit.trans h.session.faultInit⟩

/-- Settles O55: in IDLE the query is done, and its report says the rest. -/
theorem queryUnderAnyInterleaving : Obligations.QueryUnderAnyInterleaving := by
  unfold Obligations.QueryUnderAnyInterleaving
  intro i s u v as hexec htx hq hreq hcap hreset hrun hidle
  have loads := exec_loads hexec htx
  obtain ⟨hi, hdrains, hcurdev, hcureq⟩ := exec_loads_query hexec htx hq
  rw [← loads.cmdSel] at hi hdrains
  have hcapU : u.params.rxCapacity = none := loads.params ▸ hcap
  have start : QueryRun u as [] { u with turns := as } :=
    ⟨.inFrame (FrameStage.start hexec htx as) (List.append_nil _).symm, ⟨rfl, rfl, rfl⟩⟩
  obtain ⟨latches, query⟩ := command_induction (loads.requests.trans hreq) hi hreset start
    (fun before rest t here next latches h =>
      h.sequencer here next (latches.txOp ▸ hq) (latches.cmdSel ▸ hi) (latches.cmdSel ▸ hdrains))
    (fun before a t t' ha latches h => h.aside ha (latches.params ▸ hcapU)) hrun
  have session := query.session
  cases query.stage with
  | inFrame stage => obtain hp | hp := stage.phase <;> cases hidle.symm.trans hp
  | draining _ _ drain => cases hidle.symm.trans drain.phase
  | done sent report =>
    obtain ⟨hlog, hwaits⟩ := sent.since_issue hexec htx latches
    obtain ⟨k, _, hrx⟩ := report.rxFifo
    obtain ⟨before, w, hfirst, hw, hanswered⟩ := report.attempted
    rw [loads.rxFifo] at hrx hw
    refine ⟨hlog, hwaits, session.curdev.trans hcurdev, session.cureq.trans hcureq,
      session.faultInit.trans loads.faultInit, ⟨k, hrx⟩, ⟨before, w, hfirst, hw, hanswered⟩,
      fun hv => ?_, report.noAnswer⟩
    obtain ⟨holds, hval⟩ := report.answer hv
    rw [loads.rxFifo] at holds
    rw [← loads.cmdSel, ← latches.cmdSel]
    exact ⟨holds, hval⟩

end Sys2Proof.Proofs.Dispatch

/-! PROOFS. The arithmetic of the volume and the equalizer (spec/42_volume_equalizer.md): what `round` does
off a half and on one, the two scalings built on it, and the coercion of an equalizer index. -/

namespace Sys2Proof.Proofs.Arithmetic

open Sys2Proof Sys2Proof.Machine Sys2Proof.Claims

/-! ### Rounding (R11) -/

/-- `round` gives the quotient or the one above it, each only where it is no farther than the other. -/
theorem roundDiv_cases (tie : RoundTie) (n d : Nat) :
    (2 * (n % d) ≤ d ∧ roundDiv tie n d = n / d) ∨
    (d ≤ 2 * (n % d) ∧ roundDiv tie n d = n / d + 1) := by
  unfold roundDiv
  split
  next hlt => exact .inl ⟨hlt.le, rfl⟩
  next hge =>
    split
    next hgt => exact .inr ⟨hgt.le, rfl⟩
    next hle =>
      cases tie with
      | up => exact .inr ⟨by omega, rfl⟩
      | even =>
        obtain heven | hodd := Nat.mod_two_eq_zero_or_one (n / d)
        · exact .inl ⟨by omega, by simp only [heven, Nat.add_zero]⟩
        · exact .inr ⟨by omega, by simp only [hodd]⟩

theorem roundDiv_up_of_half {n d : Nat} (half : 2 * (n % d) = d) : roundDiv .up n d = n / d + 1 := by
  simp [roundDiv, half]

theorem roundDiv_even_of_half {n d : Nat} (half : 2 * (n % d) = d) :
    roundDiv .even n d = n / d + n / d % 2 := by
  simp [roundDiv, half]

/-- `round` depends on the fraction alone, not on how it is expanded. -/
theorem roundDiv_mul_right (tie : RoundTie) (n d : Nat) {k : Nat} (hk : 0 < k) :
    roundDiv tie (n * k) (d * k) = roundDiv tie n d := by
  simp only [roundDiv, Nat.mul_mod_mul_right, Nat.mul_div_mul_right _ _ hk, ← Nat.mul_assoc,
    Nat.mul_lt_mul_right hk]

/-- A larger numerator rounds to no less: where the quotients agree, it has the larger remainder. -/
theorem roundDiv_mono (tie : RoundTie) {n m : Nat} (d : Nat) (h : n ≤ m) :
    roundDiv tie n d ≤ roundDiv tie m d := by
  have hn := roundDiv_cases tie n d
  have hm := roundDiv_cases tie m d
  obtain hquot | hquot := (Nat.div_le_div_right (c := d) h).lt_or_eq
  · omega
  · obtain rfl | hlt := h.eq_or_lt
    · exact le_rfl
    · have hrem : n % d < m % d := by
        have hn' := Nat.div_add_mod n d
        have hm' := Nat.div_add_mod m d
        rw [← hquot] at hm'
        omega
      omega

/-! ### Percentages to units (R193, R194, R195) -/

theorem clamp_of_lt {v lo hi : Int} (h : v < lo) : clamp v lo hi = lo := if_pos h

theorem clamp_of_gt {v lo hi : Int} (hlohi : lo ≤ hi) (h : hi < v) : clamp v lo hi = hi := by
  rw [clamp, if_neg (by omega), if_pos h]

theorem clamp_mem {lo hi : Int} (hlohi : lo ≤ hi) (v : Int) : lo ≤ clamp v lo hi ∧ clamp v lo hi ≤ hi := by
  unfold clamp
  split
  · omega
  · split <;> omega

theorem clamp_mono {v w : Int} (lo hi : Int) (hlohi : lo ≤ hi) (h : v ≤ w) :
    clamp v lo hi ≤ clamp w lo hi := by
  obtain hv | hv := lt_or_ge v lo
  · rw [clamp_of_lt hv]
    exact (clamp_mem hlohi w).1
  · obtain hw | hw := lt_or_ge hi w
    · rw [clamp_of_gt hlohi hw]
      exact (clamp_mem hlohi v).2
    · rwa [Encoding.clamp_of_mem hv (by omega), Encoding.clamp_of_mem (by omega) hw]

/-- The scaling is the rounded `3c / 10` of the clamped percentage `c` (R194). -/
theorem units_eq_roundDiv_tenths (tie : RoundTie) {p : Int} {c : Nat} (hc : (c : Int) = clamp p 0 100) :
    units tie p = roundDiv tie (3 * c) 10 := by
  rw [units, ← hc, Int.toNat_natCast, show c * 30 = 3 * c * 10 by omega]
  exact roundDiv_mul_right tie (3 * c) 10 (by decide)

theorem units_congr_clamp (tie : RoundTie) {p q : Int} (h : clamp p 0 100 = clamp q 0 100) :
    units tie p = units tie q := by
  rw [units, units, h]

theorem units_mono (tie : RoundTie) {p q : Int} (h : p ≤ q) : units tie p ≤ units tie q :=
  roundDiv_mono tie 100
    (Nat.mul_le_mul_right 30 (Int.toNat_le_toNat (clamp_mono 0 100 (by decide) h)))

/-- On 0..100, `units(p)` is within a half of `3p / 10`. -/
theorem units_within_half (tie : RoundTie) {p : Int} (h0 : 0 ≤ p) (h100 : p ≤ 100) :
    3 * p - 5 ≤ 10 * units tie p ∧ 10 * units tie p ≤ 3 * p + 5 := by
  obtain ⟨c, rfl⟩ := Int.eq_ofNat_of_zero_le h0
  rw [units_eq_roundDiv_tenths tie (Encoding.clamp_of_mem h0 h100).symm]
  have := roundDiv_cases tie (3 * c) 10
  omega

/-- Where a half stands over an even quotient: the inputs on which the two rules differ (R194). -/
theorem mem_differing_iff {c : Nat} (hle : c ≤ 100) :
    c ∈ [15, 35, 55, 75, 95] ↔ 3 * c % 10 = 5 ∧ 3 * c / 10 % 2 = 0 := by
  simp only [List.mem_cons, List.not_mem_nil, or_false]
  constructor
  · rintro (rfl | rfl | rfl | rfl | rfl) <;> decide
  · omega

/-- Settles O6: off a half the two rules agree, and on one they differ where the quotient is even. -/
theorem unitsRoundsTheScaledPercentage : Obligations.UnitsRoundsTheScaledPercentage := by
  unfold Obligations.UnitsRoundsTheScaledPercentage
  intro tie p c hc
  have hle : c ≤ 100 := by
    have := (clamp_mem (lo := 0) (hi := 100) (by decide) p).2
    omega
  have hup := roundDiv_cases .up (3 * c) 10
  have heven := roundDiv_cases .even (3 * c) 10
  have htie := roundDiv_cases tie (3 * c) 10
  simp only [units_eq_roundDiv_tenths _ hc, mem_differing_iff hle]
  obtain off | half := ne_or_eq (3 * c % 10) 5
  · refine ⟨by omega, by omega, fun h => absurd h off, by omega, ?_⟩
    exact iff_of_false (by omega) fun hmem => off hmem.1
  · have roundsUp := roundDiv_up_of_half (n := 3 * c) (d := 10) (by omega)
    have roundsEven := roundDiv_even_of_half (n := 3 * c) (d := 10) (by omega)
    refine ⟨by omega, by omega, fun _ => ⟨roundsUp, roundsEven⟩, by omega, ?_⟩
    simp only [roundsUp, roundsEven, half, true_and]
    omega

/-- Nearer than a half, the scaling leaves one number of units under both tie rules. -/
theorem units_eq_of_near (tie : RoundTie) {p : Int} {u : Nat} (hp : 0 ≤ p ∧ p ≤ 100)
    (near : 3 * p < 10 * u + 5 ∧ 10 * u < 3 * p + 5) : units tie p = u := by
  have := units_within_half tie hp.1 hp.2
  omega

/-- Settles O7: the ends and the round trip follow from `units(p)` being within a half of `3p / 10`. -/
theorem unitsObeysItsLaws : Obligations.UnitsObeysItsLaws := by
  unfold Obligations.UnitsObeysItsLaws
  intro tie
  have ends {p : Int} {u : Nat} := units_eq_of_near tie (p := p) (u := u)
  refine ⟨Encoding.units_le tie, fun p hp => ?below, fun p hp => ?above,
    ends (by decide) (by decide), ends (by decide) (by decide), ends (by decide) (by decide),
    ends (by decide) (by decide), ends (by decide) (by decide), ends (by decide) (by decide),
    fun _ _ => units_mono tie, fun p h0 h100 => ?roundTrip⟩
  case below => exact units_congr_clamp tie (clamp_of_lt hp)
  case above => exact units_congr_clamp tie (clamp_of_gt (by decide) hp)
  case roundTrip =>
    have := units_within_half tie h0 h100
    unfold percent
    omega

/-! ### Units to percentages (R198) -/

/-- A fraction in thirds has no half, so it rounds to `percent(u)` under both tie rules. -/
theorem roundDiv_thirds (tie : RoundTie) (u : Nat) : roundDiv tie (u * 10) 3 = percent u := by
  have := roundDiv_cases tie (u * 10) 3
  unfold percent
  omega

/-- Settles O8: in lowest terms `100u / 30` is a fraction in thirds. -/
theorem percentIsTheExactRounding : Obligations.PercentIsTheExactRounding := by
  unfold Obligations.PercentIsTheExactRounding
  refine ⟨fun tie u => ⟨?_, rfl⟩, rfl, rfl, rfl⟩
  calc roundDiv tie (u * 100) 30
      = roundDiv tie (u * 10 * 10) (3 * 10) := by rw [Nat.mul_assoc]
    _ = roundDiv tie (u * 10) 3 := roundDiv_mul_right tie (u * 10) 3 (by decide)
    _ = percent u := roundDiv_thirds tie u

/-! ### Equalizer indices (R35, R197) -/

theorem coerce_of_mem {e : Int} (h : 0 ≤ e ∧ e ≤ 5) : (coerce e : Int) = e := by
  rw [coerce, if_pos h, Int.toNat_of_nonneg h.1]

theorem coerce_of_not_mem {e : Int} (h : e < 0 ∨ 5 < e) : coerce e = 0 := if_neg (by omega)

/-- Settles O9: a coerced index is at most 5, so it names a setting. -/
theorem coerceCollapsesToNormal : Obligations.CoerceCollapsesToNormal := by
  unfold Obligations.CoerceCollapsesToNormal
  exact ⟨fun _ => ⟨coerce_of_mem, coerce_of_not_mem⟩,
    fun e => Registers.equalizerIndex_equalizerOfIndex (Registers.coerce_le e)⟩

end Sys2Proof.Proofs.Arithmetic

/-! PROOFS. Initialization (spec/44_device_power.md R238): the one command that sends two frames, and the one
that can fail (spec/60_exceptions.md R290). First its run under the default order of turns, then under
any. -/

namespace Sys2Proof.Proofs.Initialization

open Sys2Proof Sys2Proof.Machine Sys2Proof.Claims Sys2Proof.Proofs.Dispatch

/-! ### Issuing INIT (R131, R238) -/

/-- The frame of INIT's first wire command, the device selection (R230, R238). -/
def selectFrame (s : State) (d : Device) : List Byte :=
  encodeTx 0x09#8 (deviceByte s.params.deviceCode d) 0#8

/-- The frame of INIT's second wire command, the mandatory state query (R142, R238). -/
def stateQueryFrame : List Byte := encodeTx 0x42#8 0#8 0#8

/-- The state after the `issue` of INIT of the device `d`: the device is retained and its selection loaded. -/
def initIssued (s : State) (arg : Word) (d : Device) : State :=
  { s with
    cmdSel := .init, cmdArg := arg, mstep := 0#1, curdev := d
    txOp := 0x09#8, txLo := deviceByte s.params.deviceCode d, txHi := 0#8, txIdx := 0#3, phase := .tx }

theorem exec_init {s : State} {arg : Word} {d : Device} (hp : s.phase = .idle)
    (hd : deviceOfArg arg = some d) : exec (.init arg) s = .next (initIssued s arg d) := by
  have hlo : BitVec.ofNat 8 ((deviceByte s.params.deviceCode d).toNat % 256) =
      deviceByte s.params.deviceCode d := by
    rw [Nat.mod_eq_of_lt (BitVec.isLt _), BitVec.ofNat_toNat, BitVec.setWidth_eq]
  have hhi : (deviceByte s.params.deviceCode d).toNat / 256 = 0 :=
    Nat.div_eq_of_lt (BitVec.isLt _)
  rw [(deviceSelectionSendsAndRetains arg d s hp hd).2, issued, hlo, hhi]
  rfl

/-! ### INIT left to run (log 12) -/

/-- The entry of INIT's drain: both frames are sent and both delays have passed (R142, R238). -/
def initAtDrain (s : State) (arg : Word) (d : Device) : State :=
  { initIssued s arg d with
    mstep := 1#1, txOp := 0x42#8, txLo := 0#8, settleMs := 0#10, lastValid := false, phase := .drain
    txLog := s.txLog ++ selectFrame s d ++ stateQueryFrame }

/-- Left to run, a frame with the slow delay of 200 ticks goes out, its delay passes and `settled` is taken
(R135, R138, R141). -/
theorem run_slow_frame_due {s : State} (hp : s.phase = .tx) (hi : s.txIdx = 0#3) (hts : s.turns = [])
    (hafter : s.turnsAfter = .due) (slow : settleDelay s.txOp = 200#10) :
    run 209 s = .next (settledStep { s with
      txLog := s.txLog ++ loadedFrame s, settleMs := 0#10, phase := .settle }) := by
  have sent := run_frame_delay_due hp hi hts hafter
  rw [slow] at sent
  rw [run_add (k := 208) (m := 1) sent, run_one]
  exact step_settled_due rfl rfl hts hafter

/-- Left to run, INIT comes to its drain after two frames of 8 bytes, each with 200 ticks and one `settled`
after it. -/
theorem run_init_due {s : State} (arg : Word) (d : Device) (hts : s.turns = [])
    (hafter : s.turnsAfter = .due) :
    run 418 (initIssued s arg d) = .next (initAtDrain s arg d) := by
  have selects := run_slow_frame_due (s := initIssued s arg d) rfl rfl hts hafter rfl
  rw [settledStep_queries (show (0x09#8 : Byte) ∉ querySet by decide) rfl rfl] at selects
  have queries := (run_add (m := 209) selects).trans (run_slow_frame_due rfl rfl hts hafter rfl)
  rw [settledStep_drains (show (0x42#8 : Byte) ∈ querySet by decide)] at queries
  exact queries

/-- Left to run one step more, INIT makes the first attempt of its drain (R145). -/
theorem run_firstAttempt_due {s : State} (arg : Word) (d : Device) (hts : s.turns = [])
    (hafter : s.turnsAfter = .due) :
    run 419 (initIssued s arg d) = .next (drainAttempt (initAtDrain s arg d)) := by
  rw [run_add (k := 418) (m := 1) (run_init_due arg d hts hafter), run_one]
  exact step_drain_due rfl hts hafter

/-- Both frames of INIT, written out. -/
theorem init_frames (s : State) (d : Device) : s.txLog ++ selectFrame s d ++ stateQueryFrame =
    s.txLog ++ [0x7E, 0xFF, 0x06, 0x09, 0x00, deviceByte s.params.deviceCode d, 0x00, 0xEF,
      0x7E, 0xFF, 0x06, 0x42, 0x00, 0x00, 0x00, 0xEF] :=
  List.append_assoc _ _ _

/-- Settles O57: the first attempt of the drain finds nothing and raises the failure. -/
theorem initFailsOnSilence : Obligations.InitFailsOnSilence := by
  unfold Obligations.InitFailsOnSilence
  intro arg d s hp hts hafter hrx hd
  have nothing : decodeRx ((initAtDrain s arg d).rxFifo.take 10) = none := by
    rw [show (initAtDrain s arg d).rxFifo = [] from hrx]
    rfl
  have fails := run_firstAttempt_due arg d hts hafter
  rw [drainAttempt_ends nothing, completeCommand_fails rfl rfl] at fails
  have consumed : s.rxFifo.drop 10 = [] := by rw [hrx]; rfl
  exact ⟨_, _, exec_init hp hd, fails, rfl, rfl, rfl, rfl, rfl, rfl, rfl, rfl, rfl, consumed,
    init_frames s d⟩

/-- Settles O58: the first attempt of the drain takes the frame, the second finds nothing and reports it. -/
theorem initIsSatisfiedByAnyFrame : Obligations.InitIsSatisfiedByAnyFrame := by
  unfold Obligations.InitIsSatisfiedByAnyFrame
  intro arg d s op dw hp hts hafter hfault hd hframe
  have whole : s.rxFifo.length ≤ 10 := (decodeRx_length hframe).le
  have consumed : s.rxFifo.drop 10 = [] := List.drop_eq_nil_of_le whole
  have chunk : decodeRx ((initAtDrain s arg d).rxFifo.take 10) = some (op, dw) :=
    (congrArg decodeRx (List.take_of_length_le whole)).trans hframe
  have takes := run_firstAttempt_due arg d hts hafter
  rw [drainAttempt_decodes chunk, show (initAtDrain s arg d).rxFifo.drop 10 = [] from consumed]
    at takes
  have reports := (run_add (m := 1) takes).trans
    ((run_one _).trans (step_drain_due rfl hts hafter))
  rw [drainAttempt_ends rfl, completeCommand_answered rfl] at reports
  exact ⟨_, _, exec_init hp hd, reports, rfl, hfault, rfl, rfl, rfl, rfl, rfl, rfl, rfl,
    init_frames s d⟩

/-! ### INIT under any order of turns (R139, R151) -/

/-- Induction over the turns of a run with no `reset` in which the host has no request: a turn is the
sequencer's, or it leaves the command in flight alone. -/
theorem turns_induction {I : List Agent → State → Prop} {as : List Agent} {u v : State}
    (noRequest : ∀ before s, I before s → s.requests = []) (hreset : Agent.reset ∉ as)
    (start : I [] { u with turns := as })
    (sequencer : ∀ before rest s, Reached u as before (.sequencer :: rest) s →
      Reached u as (before ++ [.sequencer]) rest (sequencerStep (s.setTurns rest)) →
      I before s → I (before ++ [.sequencer]) (sequencerStep (s.setTurns rest)))
    (aside : ∀ before a s t, Aside a s t → I before s → I (before ++ [a]) t)
    (h : run as.length { u with turns := as } = .next v) : I as v := by
  refine run_induction start (fun before a rest s t has hs hts ht hI => ?_) h
  have ha : a ≠ .reset := fun e => hreset (by rw [has, e]; simp)
  have hqs : (s.setTurns rest).requests = [] := noRequest before s hI
  obtain ⟨rfl, rfl⟩ | haside := agentTurn_sequencer_or_aside ha (fun _ => hqs) ht
  · have next : run (before ++ [Agent.sequencer]).length { u with turns := as } =
        .next (sequencerStep (s.setTurns rest)) := by
      rw [List.length_append, run_add hs, List.length_singleton, run_one, step_of_turns hts, ht]
    exact sequencer before rest s ⟨has, hs⟩ ⟨by rw [has]; simp, next⟩ hI
  · exact aside before a s t { haside with } hI

/-- The INIT issued in `u` is still the last command in `t`: its selector, the host's queue, the parameters
and the session registers are as `u` left them. -/
structure InitKept (u t : State) : Prop where
  cmdSel : t.cmdSel = .init
  requests : t.requests = []
  params : t.params = u.params
  curdev : t.curdev = u.curdev
  cureq : t.cureq = u.cureq

theorem InitKept.aside {u s t : State} {a : Agent} (h : InitKept u s) (ha : Aside a s t) :
    InitKept u t :=
  ⟨ha.latches.cmdSel.trans h.cmdSel, ha.latches.requests.trans h.requests,
    ha.latches.params.trans h.params, ha.readable.curdev.trans h.curdev,
    ha.readable.cureq.trans h.cureq⟩

/-- No step of the sequencer writes CMD_SEL or the host's queue. -/
theorem sequencerStep_command (s : State) :
    (sequencerStep s).cmdSel = s.cmdSel ∧ (sequencerStep s).requests = s.requests := by
  obtain ⟨_, e⟩ | ⟨_, _, e⟩ | ⟨_, _, e⟩ | ⟨_, e⟩ | ⟨_, e⟩ := sequencerStep_cases s <;> rw [e]
  · obtain ⟨_, e⟩ | ⟨_, e⟩ := txByteStep_cases s <;> rw [e] <;> exact ⟨rfl, rfl⟩
  · exact ⟨rfl, rfl⟩
  · obtain ⟨_, e⟩ | ⟨_, _, _, e⟩ | ⟨_, _, e⟩ := settledStep_cases s <;> rw [e] <;> exact ⟨rfl, rfl⟩
  · obtain ⟨_, _, _, e⟩ | ⟨_, _, e⟩ | ⟨_, _, _, e⟩ | ⟨_, _, _, e⟩ := drainAttempt_cases s <;> rw [e] <;>
      exact ⟨rfl, rfl⟩
  · exact ⟨rfl, rfl⟩

/-- Only an `issue` writes the session registers (R34, R35). -/
theorem sequencerStep_curdev_cureq (s : State) :
    (sequencerStep s).curdev = s.curdev ∧ (sequencerStep s).cureq = s.cureq := by
  obtain ⟨_, _, e⟩ | same := Registers.sequencerStep_ends_or_sameReadable s
  · rw [e]
    exact Registers.completeCommand_session (s.rxDrop 10)
  · exact ⟨same.curdev, same.cureq⟩

theorem InitKept.sequencer {u s : State} (h : InitKept u s) (ts : List Agent) :
    InitKept u (sequencerStep (s.setTurns ts)) := by
  obtain ⟨hsel, hreq⟩ := sequencerStep_command (s.setTurns ts)
  obtain ⟨hdev, heq⟩ := sequencerStep_curdev_cureq (s.setTurns ts)
  exact ⟨hsel.trans h.cmdSel, hreq.trans h.requests,
    (Scope.sequencerStep_params _).trans h.params, hdev.trans h.curdev, heq.trans h.cureq⟩

/-! ### Before the drain -/

theorem txLog_of_settling {u s : State} {as before : List Agent} {log : List Byte}
    (h : FrameStage u as log before s) (hp : s.phase = .settle) : s.txLog = log ++ loadedFrame s := by
  cases h with
  | sending phase => cases hp.symm.trans phase
  | settling _ txLog => exact txLog

/-- What `settled` leads to is not that frame on its way again: it has been sent. -/
theorem not_frameStage_settledStep {u s : State} {as before : List Agent} {log : List Byte}
    (whole : s.txLog = log ++ loadedFrame s) : ¬ FrameStage u as log before (settledStep s) := by
  intro again
  obtain ⟨_, e⟩ | ⟨_, _, _, e⟩ | ⟨_, _, e⟩ := settledStep_cases s <;> rw [e] at again
  · obtain hp | hp := again.phase <;> cases hp
  · cases again with
    | sending _ txLog =>
      have none : log ++ loadedFrame s = log := whole.symm.trans (txLog.trans (List.append_nil _))
      simp [loadedFrame, encodeTx] at none
    | settling phase => cases phase
  · obtain hp | hp := again.phase <;> cases hp

/-- The sequencer moves a frame on and leaves its latches and MSTEP, or finds it sent and its timer run out
(R135, R141, R142). -/
theorem frameStage_sequencer {u s : State} {as before rest : List Agent} {log : List Byte}
    (h : FrameStage u as log before s) (here : Reached u as before (.sequencer :: rest) s)
    (next : Reached u as (before ++ [.sequencer]) rest (sequencerStep (s.setTurns rest))) :
    (FrameStage u as log (before ++ [.sequencer]) (sequencerStep (s.setTurns rest)) ∧
      SameLatches s (sequencerStep (s.setTurns rest)) ∧
      (sequencerStep (s.setTurns rest)).mstep = s.mstep) ∨
    (sequencerStep (s.setTurns rest) = settledStep (s.setTurns rest) ∧ FrameSent u as log s) := by
  obtain moved | ⟨e, _, sent⟩ := h.sequencer here next
  · refine .inl ⟨moved, ?_⟩
    obtain ⟨_, e⟩ | ⟨_, _, e⟩ | ⟨hp, _, e⟩ | ⟨hp, _⟩ | ⟨_, e⟩ := sequencerStep_cases (s.setTurns rest)
    · rw [e]
      obtain ⟨_, e⟩ | ⟨_, e⟩ := txByteStep_cases (s.setTurns rest) <;> rw [e] <;>
        exact ⟨⟨rfl, rfl, rfl, rfl, rfl, rfl⟩, rfl⟩
    · rw [e]; exact ⟨⟨rfl, rfl, rfl, rfl, rfl, rfl⟩, rfl⟩
    · have whole : s.txLog = log ++ loadedFrame s := txLog_of_settling h hp
      rw [e] at moved
      exact absurd moved (not_frameStage_settledStep (s := s.setTurns rest) whole)
    · exact absurd hp h.phase_ne_drain
    · rw [e]; exact ⟨⟨rfl, rfl, rfl, rfl, rfl, rfl⟩, rfl⟩
  · exact .inr ⟨e, sent⟩

/-- Until the drain reads, FAULT_INIT is clear and an unbounded RXFIFO has only gained what arrived. -/
structure Unread (u : State) (before : List Agent) (t : State) : Prop where
  faultInit : t.faultInit = false
  received : t.params.rxCapacity = none → t.rxFifo = u.rxFifo ++ arrivals before

theorem Unread.aside {u s t : State} {before : List Agent} {a : Agent} (h : Unread u before s)
    (ha : Aside a s t) : Unread u (before ++ [a]) t where
  faultInit := ha.readable.faultInit.trans h.faultInit
  received hcap :=
    have hcap' : s.params.rxCapacity = none := ha.latches.params ▸ hcap
    received_aside ha hcap' (h.received hcap')

theorem arrivals_sequencer (before : List Agent) :
    arrivals (before ++ [.sequencer]) = arrivals before := by
  rw [arrivals_append, arrivals, arrivals, List.append_nil]

theorem Unread.sequencer {u s : State} {before : List Agent} (h : Unread u before s)
    (hp : s.phase ≠ .drain) (ts : List Agent) :
    Unread u (before ++ [.sequencer]) (sequencerStep (s.setTurns ts)) where
  faultInit := by
    obtain ⟨hdrain, _⟩ | same := Registers.sequencerStep_ends_or_sameReadable (s.setTurns ts)
    · exact absurd hdrain hp
    · exact same.faultInit.trans h.faultInit
  received hcap := by
    rw [arrivals_sequencer, sequencerStep_keeps_rxFifo (s := s.setTurns ts) hp]
    exact h.received (Scope.sequencerStep_params (s.setTurns ts) ▸ hcap)

/-! ### The drain -/

/-- The drain's first attempt has been made, on what was there and had arrived by then if nothing is lost,
and `answered` says whether it decoded (R290). -/
def InitAttempted (u : State) (as : List Agent) (answered : Bool) : Prop :=
  ∃ before w, firstAttempt u as before w ∧
    (u.params.rxCapacity = none → w.rxFifo = u.rxFifo ++ arrivals before) ∧
    (answered = false ↔ decodeRx (w.rxFifo.take 10) = none)

/-- The drain of INIT; `bytes` are those that were there and arrived. -/
structure InitDraining (u : State) (as : List Agent) (bytes : List Byte) (t : State) : Prop where
  phase : t.phase = .drain
  faultInit : t.faultInit = false
  attempted : t.lastValid = true → InitAttempted u as true
  unbounded : t.params.rxCapacity = none → ∃ n, Draining u as bytes t n

/-- What INIT reports when it is done: it has failed where there is no answer (R148, R290). -/
structure InitReported (u : State) (as : List Agent) (bytes : List Byte) (t : State) : Prop where
  phase : t.phase = if t.resValid then .idle else .failed
  faultInit : t.faultInit = !t.resValid
  attempted : InitAttempted u as t.resValid
  value : t.resValid = true → t.resVal = answerValue .init t.resDw
  answer : t.resValid = true → t.params.rxCapacity = none →
    HoldsAnswer bytes t.resOp t.resDw
  noAnswer : t.resValid = false → t.resOp = 0#8 ∧ t.resDw = 0#16 ∧ t.resVal = 0#32

theorem InitDraining.aside {u s t : State} {as : List Agent} {bytes : List Byte} {a : Agent}
    (h : InitDraining u as bytes s) (ha : Aside a s t) :
    InitDraining u as (bytes ++ arrivals [a]) t where
  phase := ha.phase.trans h.phase
  faultInit := ha.readable.faultInit.trans h.faultInit
  attempted hv := h.attempted (by rw [ha.rest] at hv; exact hv)
  unbounded hcap :=
    have hcap' : s.params.rxCapacity = none := ha.latches.params ▸ hcap
    have ⟨n, drain⟩ := h.unbounded hcap'
    ⟨n, drain.aside ha hcap'⟩

theorem InitReported.aside {u s t : State} {as : List Agent} {bytes : List Byte} {a : Agent}
    (h : InitReported u as bytes s) (ha : Aside a s t) :
    InitReported u as (bytes ++ arrivals [a]) t := by
  rw [ha.rest]
  exact { h with answer := fun hv hcap => (h.answer hv hcap).append _ }

/-- Before the drain has an answer its next attempt is the first. -/
theorem InitDraining.firstAttempted {u s : State} {as before rest : List Agent}
    (h : InitDraining u as (u.rxFifo ++ arrivals before) s) (kept : InitKept u s)
    (here : Reached u as before (.sequencer :: rest) s) (hv : s.lastValid = false) {answered : Bool}
    (hd : answered = false ↔ decodeRx (s.rxFifo.take 10) = none) : InitAttempted u as answered := by
  refine ⟨before, s, ⟨⟨rest, here.split⟩, here.run, h.phase, hv⟩, fun hcap => ?_, hd⟩
  obtain ⟨n, drain⟩ := h.unbounded (kept.params ▸ hcap)
  rw [drain.rxFifo, drain.untried hv]
  rfl

/-- An attempt that decodes makes the chunk the running answer (R145). -/
theorem InitDraining.decodes {u s : State} {as before rest : List Agent} {op : Byte} {dw : Word}
    (h : InitDraining u as (u.rxFifo ++ arrivals before) s) (kept : InitKept u s)
    (here : Reached u as before (.sequencer :: rest) s)
    (hd : decodeRx (s.rxFifo.take 10) = some (op, dw)) :
    InitDraining u as (u.rxFifo ++ arrivals before) { s.setTurns rest with
      rxFifo := s.rxFifo.drop 10, lastValid := true, lastOp := op, lastDw := dw } where
  phase := h.phase
  faultInit := h.faultInit
  attempted _ := by
    cases hv : s.lastValid with
    | true => exact h.attempted hv
    | false => exact h.firstAttempted kept here hv (by simp [hd])
  unbounded hcap :=
    have ⟨n, drain⟩ := h.unbounded hcap
    ⟨n + 1, drain.decodes here hd⟩

/-- An attempt that does not decode ends INIT with the running answer, or raises its failure (R148, R290). -/
theorem InitDraining.ends {u s : State} {as before rest : List Agent}
    (h : InitDraining u as (u.rxFifo ++ arrivals before) s) (kept : InitKept u s)
    (here : Reached u as before (.sequencer :: rest) s)
    (hd : decodeRx (s.rxFifo.take 10) = none) :
    InitReported u as (u.rxFifo ++ arrivals before) (completeCommand ((s.setTurns rest).rxDrop 10)) := by
  cases hv : s.lastValid with
  | true =>
    rw [completeCommand_answered (s := (s.setTurns rest).rxDrop 10) hv]
    exact
      { phase := rfl
        faultInit := h.faultInit
        attempted := h.attempted hv
        value := fun _ => by
          show resultValue s.cmdSel (some (s.lastOp, s.lastDw)) = _
          rw [kept.cmdSel]
          exact resultValue_answer rfl s.lastOp s.lastDw
        answer := fun _ hcap =>
          have ⟨_, drain⟩ := h.unbounded hcap
          (drain.answer hv).2
        noAnswer := fun hnone => by cases hnone }
  | false =>
    rw [completeCommand_fails (s := (s.setTurns rest).rxDrop 10) hv kept.cmdSel]
    exact
      { phase := rfl
        faultInit := rfl
        attempted := h.firstAttempted kept here hv (by simp [hd])
        value := fun hsome => by cases hsome
        answer := fun hsome => by cases hsome
        noAnswer := fun _ => ⟨rfl, rfl, rfl⟩ }

/-! ### The whole command -/

/-- INIT's first frame has been sent and its delay has passed. -/
def SelectSent (u : State) (as : List Agent) : Prop :=
  waitsAfter u as (u.txLog ++ loadedFrame u) 0x09#8

/-- Both of INIT's frames have been sent, and each delay has passed. -/
structure BothSent (u : State) (as : List Agent) (t : State) : Prop where
  txLog : t.txLog = u.txLog ++ loadedFrame u ++ stateQueryFrame
  select : SelectSent u as
  query : waitsAfter u as (u.txLog ++ loadedFrame u ++ stateQueryFrame) 0x42#8

theorem BothSent.of_txLog {u s t : State} {as : List Agent} (h : BothSent u as s)
    (hlog : t.txLog = s.txLog) : BothSent u as t :=
  { h with txLog := hlog.trans h.txLog }

/-- Where INIT stands. -/
inductive InitStage (u : State) (as before : List Agent) (t : State) : Prop
  | selecting (stage : FrameStage u as u.txLog before t) (latches : SameLatches u t)
      (mstep : t.mstep = 0#1) (unread : Unread u before t)
  | querying (select : SelectSent u as) (stage : FrameStage u as (u.txLog ++ loadedFrame u) before t)
      (op : t.txOp = 0x42#8) (frame : loadedFrame t = stateQueryFrame) (unread : Unread u before t)
  | draining (sent : BothSent u as t) (drain : InitDraining u as (u.rxFifo ++ arrivals before) t)
  | done (sent : BothSent u as t) (report : InitReported u as (u.rxFifo ++ arrivals before) t)

theorem InitStage.aside {u s t : State} {as before : List Agent} {a : Agent}
    (h : InitStage u as before s) (ha : Aside a s t) : InitStage u as (before ++ [a]) t := by
  have hbytes : u.rxFifo ++ arrivals (before ++ [a]) = u.rxFifo ++ arrivals before ++ arrivals [a] := by
    rw [arrivals_append, List.append_assoc]
  cases h with
  | selecting stage latches mstep unread =>
    exact .selecting (stage.aside ha) (latches.trans ha.latches) (by rw [ha.rest]; exact mstep)
      (unread.aside ha)
  | querying select stage op frame unread =>
    exact .querying select (stage.aside ha) (ha.latches.txOp.trans op)
      (ha.latches.frame.trans frame) (unread.aside ha)
  | draining sent drain => exact .draining (sent.of_txLog ha.txLog) (hbytes ▸ drain.aside ha)
  | done sent report => exact .done (sent.of_txLog ha.txLog) (hbytes ▸ report.aside ha)

/-- Once the selection has settled the state query is loaded (R142). -/
theorem selecting_settles {u s : State} {as before : List Agent} {ts : List Agent}
    (hop : u.txOp = 0x09#8) (kept : InitKept u s) (latches : SameLatches u s) (mstep : s.mstep = 0#1)
    (sent : FrameSent u as u.txLog s) (unread : Unread u before (settledStep (s.setTurns ts))) :
    InitStage u as before (settledStep (s.setTurns ts)) := by
  have op : s.txOp = 0x09#8 := latches.txOp.trans hop
  have notQuery : s.txOp ∉ querySet := by rw [op]; decide
  obtain ⟨log, waits⟩ := sent
  rw [latches.frame] at log waits
  rw [settledStep_queries (s := s.setTurns ts) notQuery kept.cmdSel mstep] at unread ⊢
  rw [op] at waits
  exact .querying waits (.sending rfl (log.trans (List.append_nil _).symm)) rfl rfl unread

/-- Once the state query has settled the drain begins (R142). -/
theorem querying_settles {u s : State} {as before : List Agent} {ts : List Agent}
    (select : SelectSent u as) (op : s.txOp = 0x42#8) (frame : loadedFrame s = stateQueryFrame)
    (sent : FrameSent u as (u.txLog ++ loadedFrame u) s)
    (unread : Unread u before (settledStep (s.setTurns ts))) :
    InitStage u as before (settledStep (s.setTurns ts)) := by
  have isQuery : s.txOp ∈ querySet := by rw [op]; decide
  obtain ⟨log, waits⟩ := sent
  rw [frame] at log waits
  rw [settledStep_drains (s := s.setTurns ts) isQuery] at unread ⊢
  rw [op] at waits
  exact .draining ⟨log, select, waits⟩
    { phase := rfl
      faultInit := unread.faultInit
      attempted := fun hv => by cases hv
      unbounded := fun hcap => ⟨0, rfl, Nat.zero_le _, unread.received hcap, fun _ => rfl,
        fun hv => by cases hv⟩ }

theorem InitStage.sequencer {u s : State} {as before rest : List Agent}
    (h : InitStage u as before s) (hop : u.txOp = 0x09#8) (kept : InitKept u s)
    (here : Reached u as before (.sequencer :: rest) s)
    (next : Reached u as (before ++ [.sequencer]) rest (sequencerStep (s.setTurns rest))) :
    InitStage u as (before ++ [.sequencer]) (sequencerStep (s.setTurns rest)) := by
  have hbytes : u.rxFifo ++ arrivals (before ++ [.sequencer]) = u.rxFifo ++ arrivals before := by
    rw [arrivals_sequencer]
  cases h with
  | selecting stage latches mstep unread =>
    have unread' := unread.sequencer stage.phase_ne_drain rest
    obtain ⟨moved, latches', mstep'⟩ | ⟨e, sent⟩ := frameStage_sequencer stage here next
    · exact .selecting moved (latches.trans latches') (mstep'.trans mstep) unread'
    · rw [e] at unread' ⊢
      exact selecting_settles hop kept latches mstep sent unread'
  | querying select stage op frame unread =>
    have unread' := unread.sequencer stage.phase_ne_drain rest
    obtain ⟨moved, latches', _⟩ | ⟨e, sent⟩ := frameStage_sequencer stage here next
    · exact .querying select moved (latches'.txOp.trans op) (latches'.frame.trans frame) unread'
    · rw [e] at unread' ⊢
      exact querying_settles select op frame sent unread'
  | draining sent drain =>
    rw [sequencerStep_drain (s := s.setTurns rest) drain.phase]
    have sent' : BothSent u as (drainAttempt (s.setTurns rest)) :=
      sent.of_txLog (Memory.drainAttempt_streams (s.setTurns rest)).1
    cases hd : decodeRx (s.rxFifo.take 10) with
    | some r =>
      rw [drainAttempt_decodes (s := s.setTurns rest) (op := r.1) (dw := r.2) hd] at sent' ⊢
      exact .draining sent' (hbytes ▸ drain.decodes kept here hd)
    | none =>
      rw [drainAttempt_ends (s := s.setTurns rest) hd] at sent' ⊢
      exact .done sent' (hbytes ▸ drain.ends kept here hd)
  | done sent report =>
    have rests : s.phase = .idle ∨ s.phase = .failed := by
      rw [report.phase]
      cases s.resValid with
      | true => exact .inl rfl
      | false => exact .inr rfl
    rw [sequencerStep_rests (s := s.setTurns rest) rests]
    exact .done (sent.of_txLog rfl) (hbytes ▸ { report with })

/-- What holds of INIT all along: it is the command in flight or the last one, and where it stands. -/
structure InitRun (u : State) (as before : List Agent) (t : State) : Prop where
  kept : InitKept u t
  stage : InitStage u as before t

theorem initRun_of_run {arg : Word} {d : Device} {s v : State} {as : List Agent}
    (hfault : s.faultInit = false) (hreq : s.requests = []) (hreset : Agent.reset ∉ as)
    (hrun : run as.length { initIssued s arg d with turns := as } = .next v) :
    InitRun (initIssued s arg d) as as v := by
  have start : InitRun (initIssued s arg d) as [] { initIssued s arg d with turns := as } :=
    ⟨⟨rfl, hreq, rfl, rfl, rfl⟩,
      .selecting (.sending rfl (List.append_nil _).symm) ⟨rfl, rfl, rfl, rfl, rfl, rfl⟩ rfl
        ⟨hfault, fun _ => (List.append_nil _).symm⟩⟩
  exact turns_induction (fun _ _ h => h.kept.requests) hreset start
    (fun _ rest _ here next h => ⟨h.kept.sequencer rest, h.stage.sequencer rfl h.kept here next⟩)
    (fun _ _ _ _ ha h => ⟨h.kept.aside ha, h.stage.aside ha⟩) hrun

/-- In IDLE and in FAILED the INIT is done. -/
theorem InitRun.is_done {u v : State} {as before : List Agent} (h : InitRun u as before v)
    (hp : v.phase = .idle ∨ v.phase = .failed) :
    BothSent u as v ∧ InitReported u as (u.rxFifo ++ arrivals before) v := by
  have notBusy : ¬ v.busy := fun busy => by
    obtain hp | hp := hp <;> simp [State.busy, hp] at busy
  cases h.stage with
  | selecting stage => exact absurd (stage.phase.imp id .inl) notBusy
  | querying _ stage => exact absurd (stage.phase.imp id .inl) notBusy
  | draining _ drain => exact absurd (.inr (.inr drain.phase)) notBusy
  | done sent report => exact ⟨sent, report⟩

theorem InitReported.failed_iff {u t : State} {as : List Agent} {bytes : List Byte}
    (h : InitReported u as bytes t) : t.phase = .failed ↔ t.resValid = false := by
  rw [h.phase]
  cases t.resValid <;> simp

/-- Settles O56: in IDLE and in FAILED the INIT is done, and its report says the rest. -/
theorem initUnderAnyInterleaving : Obligations.InitUnderAnyInterleaving := by
  unfold Obligations.InitUnderAnyInterleaving
  intro arg d s u v as hfault hd hexec hreq hreset hrun hends
  obtain rfl : initIssued s arg d = u :=
    Host.Outcome.next.inj ((exec_init (exec_eq_next hexec).1 hd).symm.trans hexec)
  have init := initRun_of_run hfault hreq hreset hrun
  have kept := init.kept
  obtain ⟨sent, report⟩ := init.is_done hends
  obtain ⟨before, w, hfirst, hw, hanswered⟩ := report.attempted
  refine ⟨sent.txLog, sent.select, sent.query, kept.curdev, kept.cureq,
    ⟨before, w, hfirst, hw, report.failed_iff.trans hanswered⟩, ?_, report.failed_iff.symm,
    fun hv => ⟨report.value hv, fun hcap => report.answer hv (kept.params ▸ hcap)⟩,
    report.noAnswer⟩
  rw [report.failed_iff, report.faultInit, Bool.not_eq_true']

end Sys2Proof.Proofs.Initialization

/-! PROOFS. The one exception of the block, initialization failure (spec/60_exceptions.md): the one step that
raises it, and how little a step can do in FAILED. -/

namespace Sys2Proof.Proofs.Exceptions

open Sys2Proof Sys2Proof.Machine Sys2Proof.Claims

/-! ### In FAILED (R292) -/

/-- A turn but `reset` takes nothing up in FAILED: a byte may arrive, and that is all. -/
theorem agentTurn_failed {a : Agent} {s t : State} (hp : s.phase = .failed) (ha : a ≠ .reset)
    (h : agentTurn a s = .next t) : t = { s with rxFifo := t.rxFifo } := by
  have notIdle : s.phase ≠ .idle := by rw [hp]; decide
  have notSettle : s.phase ≠ .settle := by rw [hp]; decide
  cases a with
  | host => cases (hostTurn_waits notIdle).symm.trans h; rfl
  | sequencer => cases h; rw [sequencerStep_rests (.inr hp)]
  | timebase => cases h; rw [tickStep_still (.inl notSettle)]
  | peripheral b =>
    cases h
    obtain ⟨appended, _⟩ | ⟨lost, _⟩ := rxByte_cases s b
    · rw [appended]
    · rw [lost]
  | reset => exact absurd rfl ha

/-- No command is issued in FAILED. -/
theorem exec_ne_next_of_failed {s : State} (hp : s.phase = .failed) (i : Instr) (u : State) :
    exec i s ≠ .next u := by
  intro h
  cases hp.symm.trans (exec_eq_next h).1

/-- Settles O42: a turn of `reset` restores the block, and any other turn leaves its phase. -/
theorem onlyResetLeavesFailed : Obligations.OnlyResetLeavesFailed := by
  unfold Obligations.OnlyResetLeavesFailed
  intro s t hp h
  rw [step_eq] at h
  refine ⟨fun hreset => ?_, fun hother => ?_⟩
  · rw [hreset] at h
    cases h
    exact ⟨rfl, rfl⟩
  · have rest : t = { s.takeTurn with rxFifo := t.rxFifo } := agentTurn_failed hp hother h
    have stays : t.phase = .failed := (congrArg State.phase rest).trans hp
    exact ⟨rest, exec_ne_next_of_failed stays⟩

/-! ### Into FAILED (R290) -/

/-- Of the phases a host's turn in IDLE can lead to, FAILED is none. -/
theorem hostTurn_idle_ne_failed {s t : State} (hp : s.phase = .idle) (h : hostTurn s = .next t) :
    t.phase ≠ .failed := by
  obtain ⟨stays, sends⟩ := Dispatch.hostTurn_phase hp h
  by_cases quiet : s.requests = [] ∨ nextRequestSkips s
  · rw [stays quiet]; decide
  · rw [sends quiet]; decide

/-- The sequencer's turn fails in one way only: the drain of INIT ends there, with nothing decoded. -/
theorem sequencerStep_fails {s : State} (hp : s.phase ≠ .failed)
    (h : (sequencerStep s).phase = .failed) :
    s.phase = .drain ∧ s.cmdSel = .init ∧ s.lastValid = false ∧
      decodeRx (s.rxFifo.take 10) = none := by
  obtain ⟨htx, e⟩ | ⟨_, _, e⟩ | ⟨_, _, e⟩ | ⟨hdrain, e⟩ | ⟨_, e⟩ := sequencerStep_cases s <;>
    rw [e] at h
  · rw [Dispatch.txByteStep_phase htx] at h
    split at h <;> cases h
  · exact absurd h hp
  · rw [Dispatch.settledStep_phase] at h
    split_ifs at h
  · obtain ⟨_, _, _, e⟩ | ⟨_, _, e⟩ | ⟨_, _, _, e⟩ | ⟨hd, hv, hi, _⟩ := drainAttempt_cases s
    · rw [e] at h
      exact absurd h hp
    · rw [e] at h
      cases h
    · rw [e] at h
      cases h
    · exact ⟨hdrain, hi, hv, hd⟩
  · exact absurd h hp

/-- Of all agents' turns only the sequencer's leads into FAILED. -/
theorem agentTurn_fails {a : Agent} {s t : State} (hp : s.phase ≠ .failed)
    (h : agentTurn a s = .next t) (ht : t.phase = .failed) :
    a = .sequencer ∧ t = sequencerStep s := by
  cases a with
  | host =>
    by_cases hidle : s.phase = .idle
    · exact absurd ht (hostTurn_idle_ne_failed hidle h)
    · cases (hostTurn_waits hidle).symm.trans h
      exact absurd ht hp
  | sequencer => cases h; exact ⟨rfl, rfl⟩
  | timebase => cases h; exact absurd ((Dispatch.tickStep_phase s).symm.trans ht) hp
  | peripheral b => cases h; exact absurd ((Dispatch.rxByte_phase s b).symm.trans ht) hp
  | reset => cases h; cases ht

/-- Settles O25: what the failure writes is the third case of the completion action, and the step that
raises it is one turn of one agent. -/
theorem initFailureIsRaisedWithNoResponse : Obligations.InitFailureIsRaisedWithNoResponse := by
  unfold Obligations.InitFailureIsRaisedWithNoResponse
  constructor
  · intro s ts hp hts hi hv hd
    have drains : s.cmdSel ∈ querySels := by rw [hi]; decide
    obtain ⟨_, _, fails⟩ := Dispatch.completionWritesTheResult s ts hp hts drains hd
    exact fails hv hi
  · intro s t h hp ht
    obtain ⟨hseq, rfl⟩ := agentTurn_fails (s := s.takeTurn) hp h ht
    exact ⟨hseq, sequencerStep_fails (s := s.takeTurn) hp ht⟩

end Sys2Proof.Proofs.Exceptions

/-! PROOFS. The reset of the block (spec/70_reset_and_hazards.md R320): the one step that gives the registers
their reset values, and what is not the block's and stays (R322, R342). -/

namespace Sys2Proof.Proofs.Reset

open Sys2Proof Sys2Proof.Machine

/-- A turn of Reset is the same step in every phase. -/
theorem step_resets {s : State} {ts : List Agent} (hts : s.turns = .reset :: ts) :
    step s = .next (s.setTurns ts).resetBlock := by
  rw [step_of_turns hts, agentTurn]

/-- Settles O27: whatever the phase, the step is the block's reset with that turn used up, and the laws of
`resetBlock` say which registers it writes and which fields it keeps. -/
theorem resetRestoresTheBlock : Obligations.ResetRestoresTheBlock := by
  unfold Obligations.ResetRestoresTheBlock
  refine ⟨rfl, fun s ts hts => ⟨_, step_resets hts, ?_⟩⟩
  simp

end Sys2Proof.Proofs.Reset
